-- ==== Sys2Proof/Word.lean ====
section
/-! DEFINITION. The word types of HBC (spec/00_scope.md R8): every register is 32 bits, and the narrower
fields keep their own width. HBC has no bytes of memory (spec/20_memory.md R64): `Byte` is a field width only. -/

namespace Sys2Proof

/-- A whole register, and a command word (R8, R80). -/
abbrev Word := BitVec 32

/-- A 16 bit field `[15:0]`: a top count or a compare value (R25, R29, R30, R36, R37, R39). -/
abbrev Half := BitVec 16

/-- An 8 bit field `[7:0]`: a sensor count or an error count (R26, R33, R7). -/
abbrev Byte := BitVec 8

/-- The 6 bit index of a register on the bus (R60, R61). -/
abbrev Index := BitVec 6

end Sys2Proof
end

