-- ==== Sys2Proof/Config.lean ====
section
/-! DEFINITION. What an instance of the hardware fixes: the implementation parameters of spec/00_scope.md R6
and the configuration record `cfg` of R7. Neither is state of the hardware (R20): `Machine.State` carries both so
that one step function is correct for EVERY value of them, and no command changes them. -/

namespace Sys2Proof

/-- The divider set `{1, 8, 64, 256, 1024}` (R6, R84). -/
inductive Prescaler where
  | div1 | div8 | div64 | div256 | div1024
  deriving DecidableEq, Repr

/-- The counter widths `8 | 16` (R6, R85). -/
inductive Width where
  | bits8 | bits16
  deriving DecidableEq, Repr

/-- The implementation parameters with more than one legal value (R6). -/
structure Params where
  /-- `PWM_PRESCALER` -/
  pwmPrescaler : Prescaler
  /-- `PWM_BITS` -/
  pwmBits : Width
  /-- `TICK_PRESCALER` -/
  tickPrescaler : Prescaler
  /-- `TICK_BITS` -/
  tickBits : Width
  deriving DecidableEq, Repr

/-- The hardware of the spec: the "value" column of R6. -/
def Params.design : Params where
  pwmPrescaler := .div8
  pwmBits := .bits8
  tickPrescaler := .div64
  tickBits := .bits16

/-- `NTEMP`, the capacity of the temperature sample buffer (R6: the only legal value is 5). -/
abbrev NTEMP : Nat := 5

/-- `PULSES`, the error-indicator pulses of an ERROR cycle (R6: the only legal value is 4). -/
abbrev PULSES : Nat := 4

/-- The configuration record `cfg` (R7): the tuning constants, latched when reset is released. A field typed FX
holds the 32 bit two's complement integer `r` that denotes `r / 65536` (R9). -/
structure Cfg where
  /-- `cfg.tmax`, FX -/
  tmax : Word
  /-- `cfg.delta`, FX: the band width below `tmax` -/
  delta : Word
  /-- `cfg.minfan`, FX -/
  minfan : Word
  /-- `cfg.maxerr`, unsigned 8 bits -/
  maxerr : Byte
  /-- `cfg.maxsens`, unsigned 8 bits; `Cfg.WellFormed` bounds it by `NTEMP` -/
  maxsens : Byte
  /-- `cfg.sentinel`, FX: OPEN in the spec (spec/92_eei_decisions.md D16), so a field and no constant -/
  sentinel : Word
  /-- `cfg.cycle_period`, a duration in a unit the spec does not name (R7, R214). DESIGN CHOICE (log 5): a whole
  number of that unit. No state rule reads it; `Machine.blockedEighths` does. -/
  cyclePeriod : Nat
  deriving DecidableEq, Repr

/-- The test configuration TC0 of spec/95_test_vectors.md section 0. DESIGN CHOICE (log 3): it is the configuration
`Machine.State.reset` presents; its sentinel is the spec's suggested test value, its cycle period is the model's. -/
def Cfg.tc0 : Cfg where
  tmax := 0x0022C000#32
  delta := 0x00038000#32
  minfan := 0x001E0000#32
  maxerr := 5#8
  maxsens := 5#8
  sentinel := 0xFF810000#32
  cyclePeriod := 1

end Sys2Proof
end

