-- ==== Sys2Proof/Syntax.lean ====
section
/-! DEFINITION. The six commands (spec/30_encoding.md R82), the named registers (spec/20_memory.md R61) and what the
host presents to HBC (R60, and the reset of spec/70_reset_and_hazards.md R200). -/

namespace Sys2Proof

/-- The commands of spec/opcode_table.json, one constructor a row. Only TOP carries operands in its word (R81, R86):
the prescaler code `PSEL = w[6:4]` and the width code `BW = w[7]`. They stay codes here, the reserved `PSEL` values
among them, because a TOP word with a reserved `PSEL` is a legal command (R83). -/
inductive Instr where
  /-- TOP, format T, `OP = 1` (R100) -/
  | top (psel : BitVec 3) (bw : BitVec 1)
  /-- CMP, format Z, `OP = 2` (R105) -/
  | cmp
  /-- PWMCFG, format Z, `OP = 3` (R120) -/
  | pwmcfg
  /-- PWMDUTY, format Z, `OP = 4` (R124) -/
  | pwmduty
  /-- TICKCFG, format Z, `OP = 5` (R140) -/
  | tickcfg
  /-- CYCLE, format Z, `OP = 6` (R150) -/
  | cycle
  deriving DecidableEq, Repr

/-- The 30 named indices of the register map: 23 state registers, `CMD` and six configuration mirrors (R20, R61). -/
inductive RegName where
  | clk | freq | pct | topin | nsens
  | temp0 | temp1 | temp2 | temp3 | temp4
  | status | rtop | rcmp | rach | cstate | errcnt | dutyreq
  | pwmctl | pwmtop | pwmcmp | tickctl | ticktop | pins
  | cmd
  | cfgTmax | cfgDelta | cfgMinfan | cfgMaxerr | cfgSent | cfgMaxsens
  deriving DecidableEq, Repr

/-- A bus operation (R60): `Read(i)` or `Write(i, v)`. The machine-readable triples of R90 are these terms. -/
inductive BusOp where
  | read (i : Index)
  | write (i : Index) (v : Word)
  deriving DecidableEq, Repr

/-- What the outside can do to HBC, one act at a time: a bus operation (R60), or a reset that latches the tuning
constants present on the configuration inputs when it is released (R200, R7). -/
inductive HostAct where
  | bus (op : BusOp)
  | reset (inputs : Cfg)
  deriving DecidableEq, Repr

end Sys2Proof
end

