-- ==== Sys2Proof/WellFormed.lean ====
section
/-! DEFINITION. Well-formedness: of a configuration record (the one condition of spec/00_scope.md R7), of what the
host presents, and of a command. -/

namespace Sys2Proof

/-- "The only well-formedness condition on `cfg` is `cfg.maxsens <= NTEMP`" (R7, spec/92_eei_decisions.md D31). -/
abbrev Cfg.WellFormed (c : Cfg) : Prop := c.maxsens.toNat ≤ NTEMP

/-- A reset presents a configuration of this hardware (R7); every bus operation is well formed, because a 6 bit index
and a 32 bit value cannot name anything outside the map (R61, R65). -/
def HostAct.wellFormed : HostAct → Bool
  | .bus _ => true
  | .reset c => decide c.WellFormed

/-- A command's fields fit the slices of R81. The widths of the types already say so, so no ill-formed command exists
(`Laws.instr_wellFormed`): a reserved `PSEL` is a legal command (R83), see `Instr.operandLegal`. -/
def Instr.wellFormed : Instr → Bool
  | .top psel bw => decide (psel.toNat < 2 ^ (6 - 4 + 1)) && decide (bw.toNat < 2 ^ (7 - 7 + 1))
  | .cmp => true
  | .pwmcfg => true
  | .pwmduty => true
  | .tickcfg => true
  | .cycle => true

/-- The operand of the command is one the hardware accepts: TOP's `PSEL` is none of the reserved 0, 6, 7 (R83, R84).
A command that fails this check runs and ends with `BAD_OPERAND` (R100). -/
def Instr.operandLegal : Instr → Bool
  | .top psel _ => !(psel == 0#3 || psel == 6#3 || psel == 7#3)
  | .cmp => true
  | .pwmcfg => true
  | .pwmduty => true
  | .tickcfg => true
  | .cycle => true

end Sys2Proof
end

