-- ==== Sys2Proof/Decode.lean ====
section
/-! DEFINITION. Decoding a command word (spec/30_encoding.md R80), the encoder, and the opcode map of R82 as rows.
A word the decoder refuses is refused by name; what HBC does then (`STATUS = ILLEGAL_CMD`, R83) is
`Machine.runCommand`. -/

namespace Sys2Proof

/-- Why a command word is illegal (R80): both give `ILLEGAL_CMD`. -/
inductive DecodeError where
  /-- `OP` is 0 or 7 to 15 -/
  | reservedOpcode (op : BitVec 4)
  /-- the command of this name has a must-be-zero bit set: `w[31:4]` in format Z, `w[31:8]` in format T -/
  | mustBeZero (mnemonic : String)
  deriving DecidableEq, Repr

/-- What decoding a command word answers. -/
inductive Decoded where
  | instr (i : Instr)
  | illegal (why : DecodeError)
  deriving DecidableEq, Repr

/-- `OP = w[3:0]` (R80). -/
def opField (w : Word) : BitVec 4 := w.extractLsb' 0 4

/-- `PSEL = w[6:4]` (R81). -/
def pselField (w : Word) : BitVec 3 := w.extractLsb' 4 3

/-- `BW = w[7]` (R81). -/
def bwField (w : Word) : BitVec 1 := w.extractLsb' 7 1

/-- The must-be-zero bits `w[31:4]` of format Z (R81). -/
def zeroFieldZ (w : Word) : BitVec 28 := w.extractLsb' 4 28

/-- The must-be-zero bits `w[31:8]` of format T (R81). -/
def zeroFieldT (w : Word) : BitVec 24 := w.extractLsb' 8 24

/-- Format Z: the command `i`, if the must-be-zero bits are zero (R80). -/
def decodeZ (w : Word) (i : Instr) (mnemonic : String) : Decoded :=
  if zeroFieldZ w = 0#28 then .instr i else .illegal (.mustBeZero mnemonic)

/-- Format T: TOP with its two codes, if the must-be-zero bits are zero (R80). -/
def decodeT (w : Word) : Decoded :=
  if zeroFieldT w = 0#24 then .instr (.top (pselField w) (bwField w)) else .illegal (.mustBeZero "TOP")

/-- Decoding a command word (R80), total: every other `OP` is reserved. -/
def decode (w : Word) : Decoded :=
  match (opField w).toNat with
  | 1 => decodeT w
  | 2 => decodeZ w .cmp "CMP"
  | 3 => decodeZ w .pwmcfg "PWMCFG"
  | 4 => decodeZ w .pwmduty "PWMDUTY"
  | 5 => decodeZ w .tickcfg "TICKCFG"
  | 6 => decodeZ w .cycle "CYCLE"
  | _ => .illegal (.reservedOpcode (opField w))

/-- The command word of a command (R81, R82): `0...0 BW PSEL OP` in format T, `0...0 OP` in format Z. -/
def encode : Instr → Word
  | .top psel bw => 0#24 ++ bw ++ psel ++ 1#4
  | .cmp => 0#28 ++ 2#4
  | .pwmcfg => 0#28 ++ 3#4
  | .pwmduty => 0#28 ++ 4#4
  | .tickcfg => 0#28 ++ 5#4
  | .cycle => 0#28 ++ 6#4

/-- A row of the opcode map (R82, spec/opcode_table.json): a word belongs to the row when it agrees with `pattern`
on the bits of `mask`. -/
structure OpRow where
  mnemonic : String
  mask : Word
  pattern : Word
  deriving DecidableEq, Repr

/-- The six rows of spec/opcode_table.json. -/
def opcodeRows : List OpRow :=
  [⟨"TOP", 0xFFFFFF0F#32, 0x00000001#32⟩,
   ⟨"CMP", 0xFFFFFFFF#32, 0x00000002#32⟩,
   ⟨"PWMCFG", 0xFFFFFFFF#32, 0x00000003#32⟩,
   ⟨"PWMDUTY", 0xFFFFFFFF#32, 0x00000004#32⟩,
   ⟨"TICKCFG", 0xFFFFFFFF#32, 0x00000005#32⟩,
   ⟨"CYCLE", 0xFFFFFFFF#32, 0x00000006#32⟩]

/-- The row a command belongs to. -/
def opcodeRow : Instr → OpRow
  | .top _ _ => ⟨"TOP", 0xFFFFFF0F#32, 0x00000001#32⟩
  | .cmp => ⟨"CMP", 0xFFFFFFFF#32, 0x00000002#32⟩
  | .pwmcfg => ⟨"PWMCFG", 0xFFFFFFFF#32, 0x00000003#32⟩
  | .pwmduty => ⟨"PWMDUTY", 0xFFFFFFFF#32, 0x00000004#32⟩
  | .tickcfg => ⟨"TICKCFG", 0xFFFFFFFF#32, 0x00000005#32⟩
  | .cycle => ⟨"CYCLE", 0xFFFFFFFF#32, 0x00000006#32⟩

/-- The word of an opcode-table row whose low `nbits` bits are those of `w` and whose other bits are 0. HBC has no
bytes (R64): the word itself is what the host writes to `CMD`. -/
def tableWord (nbits w : Nat) : Word := BitVec.ofNat 32 (w % 2 ^ nbits)

/-- The command the decoder reads from a table word, none where it refuses. -/
def decodeTableWord (nbits w : Nat) : Option Instr :=
  match decode (tableWord nbits w) with
  | .instr i => some i
  | .illegal _ => none

end Sys2Proof
end

