-- ==== Sys2Proof/Machine/State.lean ====
section
/-! DEFINITION. The state of HBC as plain data (spec/10_state.md), its output events (R51), the reasons a step can
stop, and the state after reset (R52, spec/70_reset_and_hazards.md R200). A register whose upper bits are reserved is
held at the width of the bits it stores; `Machine.readReg` gives the 32 bit value the host reads. -/

namespace Sys2Proof.Machine

/-- The status codes of spec/60_exceptions.md R180; codes 5 to 15 are reserved and never written. -/
inductive StatusCode where
  | ok | overflow | notConfigured | badOperand | illegalCmd
  deriving DecidableEq, Repr

/-- The control states of spec/30_encoding.md R88, in the order of their codes. -/
inductive ControlState where
  | hot | warm | cold | error
  deriving DecidableEq, Repr

/-- The output events (spec/10_state.md R51). A 3 bit argument is a prescaler code. -/
inductive OutEvent where
  | pwmMode (psel : BitVec 3)
  | pwmFlagClr
  | pwmTop (v : Half)
  | pwmCmp (v : Half)
  | tickMode (psel : BitVec 3)
  | tickFlagClr
  | tickTop (v : Half)
  | tickIen
  | tickCntClr
  | fanEn (b : Bool)
  | errInd (b : Bool)
  | delay
  deriving DecidableEq, Repr

/-- No constructor: "HBC has no fault and no stuck state" (spec/93_implementation_defined.md part 1,
spec/60_exceptions.md R182: no trap, no fault state, no halt). -/
inductive Fault where
  deriving DecidableEq, Repr

/-- Why a step has no meaning. -/
inductive Refusal where
  /-- Raised by an arm of `exec` whose instruction has no meaning yet. No arm raises it. Safe. -/
  | notModelled (mnemonic : String)
  /-- Raised by a reset that presents `cfg.maxsens > NTEMP`: "not a configuration of this hardware and the model
  need give it no meaning" (spec/00_scope.md R7). Safe: the model stops where the spec gives no behaviour. -/
  | illFormedConfig (maxsens : Byte)
  deriving DecidableEq, Repr

/-- The whole state. `params` and `cfg` are the instance (R6, R7), constant but for a reset latching `cfg`; then the
23 registers of R20; then the output trace (R50); `script` and `reads` are the host's side of the bus (R60, log 1):
the acts it has still to present, and the values its reads have returned since reset. -/
structure State where
  /-- the implementation parameters (R6) -/
  params : Params
  /-- the configuration record, read at 0x20 to 0x25 (R7, R42) -/
  cfg : Cfg
  /-- `CLK`, 0x00 (R22) -/
  clk : Word
  /-- `FREQ`, 0x01 (R23) -/
  freq : Word
  /-- `PCT`, 0x02 (R24) -/
  pct : Word
  /-- `TOPIN[15:0]`, 0x03 (R25) -/
  topin : Half
  /-- `NSENS[7:0]`, 0x04 (R26) -/
  nsens : Byte
  /-- `TEMP0`, 0x08 (R27) -/
  temp0 : Word
  /-- `TEMP1`, 0x09 (R27) -/
  temp1 : Word
  /-- `TEMP2`, 0x0A (R27) -/
  temp2 : Word
  /-- `TEMP3`, 0x0B (R27) -/
  temp3 : Word
  /-- `TEMP4`, 0x0C (R27) -/
  temp4 : Word
  /-- `STATUS[3:0]`, 0x10 (R28) -/
  status : StatusCode
  /-- `RTOP[15:0]`, 0x11 (R29) -/
  rtop : Half
  /-- `RCMP[15:0]`, 0x12 (R30) -/
  rcmp : Half
  /-- `RACH`, 0x13 (R31) -/
  rach : Word
  /-- `CSTATE`, 0x14 (R32): none while `VALID = 0` -/
  cstate : Option ControlState
  /-- `ERRCNT[7:0]`, 0x15 (R33) -/
  errcnt : Byte
  /-- `DUTYREQ`, 0x16 (R34) -/
  dutyreq : Word
  /-- `PWMCTL.CONFIGURED`, 0x18 bit 0 (R35); `PSEL` and `BW` are constants of `params` -/
  pwmConfigured : Bool
  /-- `PWMTOP[15:0]`, 0x19 (R36) -/
  pwmtop : Half
  /-- `PWMCMP[15:0]`, 0x1A (R37) -/
  pwmcmp : Half
  /-- `TICKCTL.CONFIGURED`, 0x1C bit 0 (R38) -/
  tickConfigured : Bool
  /-- `TICKCTL.IEN`, 0x1C bit 5 (R38) -/
  tickIen : Bool
  /-- `TICKTOP[15:0]`, 0x1D (R39) -/
  ticktop : Half
  /-- `PINS.FAN_EN`, 0x1E bit 0 (R40) -/
  fanEn : Bool
  /-- `PINS.ERR_IND`, 0x1E bit 1 (R40) -/
  errInd : Bool
  /-- the output trace since reset, oldest first (R50) -/
  trace : List OutEvent
  /-- the host's acts still to come, next first (model's own: log 1) -/
  script : List HostAct
  /-- the values reads have returned since reset, oldest first (model's own: log 1) -/
  reads : List Word
  deriving DecidableEq, Repr

/-- The state after a reset that latches the configuration `c`, on an instance with parameters `p` (R52, R200, R201);
the host has presented nothing. -/
def State.resetWith (p : Params) (c : Cfg) : State where
  params := p
  cfg := c
  clk := 0#32
  freq := 0#32
  pct := 0#32
  topin := 0#16
  nsens := 0#8
  temp0 := c.sentinel
  temp1 := c.sentinel
  temp2 := c.sentinel
  temp3 := c.sentinel
  temp4 := c.sentinel
  status := .ok
  rtop := 0#16
  rcmp := 0#16
  rach := 0#32
  cstate := none
  errcnt := 0#8
  dutyreq := 0#32
  pwmConfigured := false
  pwmtop := 0#16
  pwmcmp := 0#16
  tickConfigured := false
  tickIen := false
  ticktop := 0#16
  fanEn := false
  errInd := false
  trace := []
  script := []
  reads := []

/-- The machine right after reset: the hardware of the spec (R6's values) with the configuration TC0 on its inputs
(DESIGN CHOICE, log 3: the spec leaves `cfg` to the host). -/
def State.reset : State := State.resetWith Params.design Cfg.tc0

end Sys2Proof.Machine
end

