-- ==== Sys2Proof/Machine/Operands.lean ====
section
/-! DEFINITION. Operands: the FX container (spec/00_scope.md R9), the prescaler and width codes (spec/30_encoding.md
R84, R85), and the operands each command reads from the registers (R86). -/

namespace Sys2Proof.Machine

/-- The signed integer of an FX word (R8 `sext_32`, R9): it denotes this integer divided by 65536. -/
def fxInt (w : Word) : Int := w.toInt

/-- The FX word of an integer of FX units; every caller's integer fits 32 bits (R13). -/
def fxWord (r : Int) : Word := BitVec.ofInt 32 r

/-- The divider of a prescaler, `presc` of R84. -/
def divider : Prescaler → Nat
  | .div1 => 1
  | .div8 => 8
  | .div64 => 64
  | .div256 => 256
  | .div1024 => 1024

/-- The prescaler code `PSEL` (R84). -/
def prescCode : Prescaler → BitVec 3
  | .div1 => 1#3
  | .div8 => 2#3
  | .div64 => 3#3
  | .div256 => 4#3
  | .div1024 => 5#3

/-- The prescaler a code selects; 0, 6 and 7 are reserved (R84). -/
def prescOfCode (psel : BitVec 3) : Option Prescaler :=
  match psel.toNat with
  | 1 => some .div1
  | 2 => some .div8
  | 3 => some .div64
  | 4 => some .div256
  | 5 => some .div1024
  | _ => none

/-- The number of counter bits of a width, `bits` of R85. -/
def widthBits : Width → Nat
  | .bits8 => 8
  | .bits16 => 16

/-- The width code `BW` (R85). -/
def widthCode : Width → BitVec 1
  | .bits8 => 0#1
  | .bits16 => 1#1

/-- The width a code selects (R85). -/
def widthOfCode (bw : BitVec 1) : Width := if bw = 0#1 then .bits8 else .bits16

/-- `F = x[FREQ]`: the target frequency in units of 1/256 Hz (R10, R23). -/
def opF (s : State) : Nat := s.freq.toNat

/-- `C = x[CLK]`: the clock in hertz (R22). -/
def opC (s : State) : Nat := s.clk.toNat

/-- `p = sext_32(x[PCT])`: the requested percentage in FX units (R24). -/
def opP (s : State) : Int := fxInt s.pct

/-- `T = x[TOPIN][15:0]` of CMP (R25). -/
def opT (s : State) : Nat := s.topin.toNat

/-- `x[PWMTOP][15:0]`, the top count of the active PWM configuration (R36). -/
def channelTop (s : State) : Nat := s.pwmtop.toNat

/-- `n = x[NSENS][7:0]` (R26). -/
def sensorCount (s : State) : Nat := s.nsens.toNat

/-- `t[0]` to `t[4]`: the readings in FX units, signed (R27). -/
def readings (s : State) : List Int :=
  [fxInt s.temp0, fxInt s.temp1, fxInt s.temp2, fxInt s.temp3, fxInt s.temp4]

/-- `t[0]` to `t[n-1]`: the readings that belong to the snapshot; the others are ignored (R153). -/
def snapshot (s : State) : List Int := (readings s).take (sensorCount s)

end Sys2Proof.Machine
end

