-- ==== Sys2Proof/Machine/Flags.lean ====
section
/-! DEFINITION. Codes and the words of the registers that are made of fields: `STATUS`, `CSTATE`, `PWMCTL`,
`TICKCTL`, `PINS`. HBC has no arithmetic flags. -/

namespace Sys2Proof.Machine

/-- The numbering of the status codes (spec/60_exceptions.md R180). -/
def statusBits : StatusCode → BitVec 4
  | .ok => 0#4
  | .overflow => 1#4
  | .notConfigured => 2#4
  | .badOperand => 3#4
  | .illegalCmd => 4#4

/-- The control state codes (spec/30_encoding.md R88). -/
def stateBits : ControlState → BitVec 2
  | .hot => 0#2
  | .warm => 1#2
  | .cold => 2#2
  | .error => 3#2

/-- One bit of a register word. -/
def bit (b : Bool) : BitVec 1 := BitVec.ofBool b

/-- `STATUS` as the host reads it (R28): the code in `[3:0]`. -/
def statusWord (c : StatusCode) : Word := (statusBits c).setWidth 32

/-- `CSTATE` as the host reads it (R32): `VALID` in bit 2, the code in `[1:0]`, all zero while `VALID = 0`. -/
def cstateWord : Option ControlState → Word
  | none => 0#32
  | some st => (1#1 ++ stateBits st).setWidth 32

/-- `PWMCTL` as the host reads it (R35): `BW` in bit 4, `PSEL` in `[3:1]`, `CONFIGURED` in bit 0. -/
def pwmctlWord (p : Params) (configured : Bool) : Word :=
  (widthCode p.pwmBits ++ prescCode p.pwmPrescaler ++ bit configured).setWidth 32

/-- `TICKCTL` as the host reads it (R38): `IEN` in bit 5, `BW` in bit 4, `PSEL` in `[3:1]`, `CONFIGURED` in bit 0. -/
def tickctlWord (p : Params) (configured ien : Bool) : Word :=
  (bit ien ++ widthCode p.tickBits ++ prescCode p.tickPrescaler ++ bit configured).setWidth 32

/-- `PINS` as the host reads it (R40): `ERR_IND` in bit 1, `FAN_EN` in bit 0. -/
def pinsWord (fanEn errInd : Bool) : Word := (bit errInd ++ bit fanEn).setWidth 32

end Sys2Proof.Machine
end

