-- ==== Sys2Proof/Machine/Ops.lean ====
section
/-! DEFINITION. The shared operations: the arithmetic of spec/00_scope.md R11 and R12 and of spec/40_timermath.md R101
to R108, the output events with the register each one mirrors (spec/10_state.md R50, R51), ending a command with a
status code (R13 `raise`), and the register map (spec/20_memory.md R61 to R63).

HBC takes no exception (spec/60_exceptions.md R182, R183): what ends a command early is `raise`, and nothing is
saved, vectored or returned from. -/

namespace Sys2Proof.Machine

/-! ## Arithmetic (exact, over unbounded integers: R14) -/

/-- `HUNDRED = fx(100)` (R9). -/
abbrev HUNDRED : Int := 6553600

/-- `rnd(n, d) = floor((2n + d) / (2d))` for `d > 0`: nearest, a tie toward plus infinity (R11). Lean's integer
division is the floor for a positive divisor. -/
def rnd (n d : Int) : Int := (2 * n + d) / (2 * d)

/-- `clamp(v, lo, hi)` (R12). -/
def clamp (v lo hi : Int) : Int := if v < lo then lo else if v > hi then hi else v

/-- The result of `computeTop`: a top count, or the source's one failure value (R101). -/
inductive TopResult where
  | overflow
  | ok (top : Nat)
  deriving DecidableEq, Repr

/-- The range check on `top = r - 1` for a counter of `b` bits (R103). -/
def checkTop (top : Int) (b : Nat) : TopResult :=
  if top < 0 ∨ top > 2 ^ b - 1 then .overflow else .ok top.toNat

/-- `computeTop(F, C, P, b)` (R101, R102, R103): the top count for target `F / 256` Hz at clock `C` Hz. -/
def computeTop (F C P b : Nat) : TopResult :=
  if F = 0 then .overflow else checkTop (rnd (256 * C) (P * F) - 1) b

/-- `raw` of R106: the clamped request in whole counts of the period. -/
def rawCount (T : Nat) (p : Int) : Int := rnd ((T + 1) * clamp p 0 HUNDRED) HUNDRED

/-- The compare value of R106; the remap of `raw = 0` to the top count is R107. -/
def compareValue (T : Nat) (p : Int) : Nat :=
  if rawCount T p = 0 then T else (rawCount T p - 1).toNat

/-- The achieved percentage of a compare value in FX units, rounded once (R108). -/
def achieved (T c : Nat) : Int := rnd (HUNDRED * (c + 1)) (T + 1)

/-- `computeCompare(T, p)` (R106): the compare value and the achieved percentage. -/
def computeCompare (T : Nat) (p : Int) : Nat × Int :=
  (compareValue T p, achieved T (compareValue T p))

/-! ## Ending a command, and the output events -/

/-- Write `STATUS`: `raise CODE` (R13), and the last write of every command (R28, R180). -/
def raise (code : StatusCode) (s : State) : State := { s with status := code }

/-- `emit E` (R13, R50): append to the output trace. -/
def emit (e : OutEvent) (s : State) : State := { s with trace := s.trace ++ [e] }

/-- `emit FanEn(b); PINS.FAN_EN <- b` (R157, R161, R163). -/
def driveFan (b : Bool) (s : State) : State := { emit (.fanEn b) s with fanEn := b }

/-- `emit ErrInd(b); PINS.ERR_IND <- b` (R164). -/
def driveErr (b : Bool) (s : State) : State := { emit (.errInd b) s with errInd := b }

/-- `emit PwmTop(v); x[PWMTOP] <- v` (R120). -/
def drivePwmTop (v : Half) (s : State) : State := { emit (.pwmTop v) s with pwmtop := v }

/-- `emit PwmCmp(v); x[PWMCMP] <- v` (R120, R124, R162). -/
def drivePwmCmp (v : Half) (s : State) : State := { emit (.pwmCmp v) s with pwmcmp := v }

/-- `emit TickTop(v); x[TICKTOP] <- v` (R140). -/
def driveTickTop (v : Half) (s : State) : State := { emit (.tickTop v) s with ticktop := v }

/-- `emit TickIen; TICKCTL.IEN <- 1` (R140). -/
def armTick (s : State) : State := { emit .tickIen s with tickIen := true }

/-- `PWMCTL.CONFIGURED <- 1` (R120). -/
def setPwmConfigured (s : State) : State := { s with pwmConfigured := true }

/-- `TICKCTL.CONFIGURED <- 1` (R140). -/
def setTickConfigured (s : State) : State := { s with tickConfigured := true }

/-- `x[RTOP] <- top` (R100). -/
def setRtop (v : Half) (s : State) : State := { s with rtop := v }

/-- `x[RCMP] <- c; x[RACH] <- a` (R105, R124, R162). -/
def setQuantized (c : Half) (a : Word) (s : State) : State := { s with rcmp := c, rach := a }

/-- `x[DUTYREQ] <- d` (R162). -/
def setDutyreq (d : Word) (s : State) : State := { s with dutyreq := d }

/-- `x[ERRCNT] <- e` (R157, R163). -/
def setErrcnt (e : Byte) (s : State) : State := { s with errcnt := e }

/-- `x[CSTATE] <- 4 + code(st)` (R150). -/
def setCstate (st : ControlState) (s : State) : State := { s with cstate := some st }

/-- `x[NSENS] <- 0`, every `x[TEMPi] <- cfg.sentinel`: the snapshot is consumed (R150, R168). -/
def consumeSnapshot (s : State) : State :=
  { s with
    nsens := 0#8
    temp0 := s.cfg.sentinel
    temp1 := s.cfg.sentinel
    temp2 := s.cfg.sentinel
    temp3 := s.cfg.sentinel
    temp4 := s.cfg.sentinel }

/-- Quantize a request `p` (FX units) on the active top count and drive it: the body that PWMDUTY (R124) and
`applyDuty` (R162) share. -/
def driveDuty (p : Int) (s : State) : State :=
  setQuantized (BitVec.ofNat 16 (computeCompare (channelTop s) p).1) (fxWord (computeCompare (channelTop s) p).2)
    (drivePwmCmp (BitVec.ofNat 16 (computeCompare (channelTop s) p).1) s)

/-! ## The register map and the bus's register accesses -/

/-- The index of a named register (R61). -/
def indexOf : RegName → Index
  | .clk => 0x00#6
  | .freq => 0x01#6
  | .pct => 0x02#6
  | .topin => 0x03#6
  | .nsens => 0x04#6
  | .temp0 => 0x08#6
  | .temp1 => 0x09#6
  | .temp2 => 0x0A#6
  | .temp3 => 0x0B#6
  | .temp4 => 0x0C#6
  | .status => 0x10#6
  | .rtop => 0x11#6
  | .rcmp => 0x12#6
  | .rach => 0x13#6
  | .cstate => 0x14#6
  | .errcnt => 0x15#6
  | .dutyreq => 0x16#6
  | .pwmctl => 0x18#6
  | .pwmtop => 0x19#6
  | .pwmcmp => 0x1A#6
  | .tickctl => 0x1C#6
  | .ticktop => 0x1D#6
  | .pins => 0x1E#6
  | .cmd => 0x1F#6
  | .cfgTmax => 0x20#6
  | .cfgDelta => 0x21#6
  | .cfgMinfan => 0x22#6
  | .cfgMaxerr => 0x23#6
  | .cfgSent => 0x24#6
  | .cfgMaxsens => 0x25#6

/-- The register at an index, none for a reserved index (R61, R43). -/
def regAt (i : Index) : Option RegName :=
  match i.toNat with
  | 0x00 => some .clk
  | 0x01 => some .freq
  | 0x02 => some .pct
  | 0x03 => some .topin
  | 0x04 => some .nsens
  | 0x08 => some .temp0
  | 0x09 => some .temp1
  | 0x0A => some .temp2
  | 0x0B => some .temp3
  | 0x0C => some .temp4
  | 0x10 => some .status
  | 0x11 => some .rtop
  | 0x12 => some .rcmp
  | 0x13 => some .rach
  | 0x14 => some .cstate
  | 0x15 => some .errcnt
  | 0x16 => some .dutyreq
  | 0x18 => some .pwmctl
  | 0x19 => some .pwmtop
  | 0x1A => some .pwmcmp
  | 0x1C => some .tickctl
  | 0x1D => some .ticktop
  | 0x1E => some .pins
  | 0x1F => some .cmd
  | 0x20 => some .cfgTmax
  | 0x21 => some .cfgDelta
  | 0x22 => some .cfgMinfan
  | 0x23 => some .cfgMaxerr
  | 0x24 => some .cfgSent
  | 0x25 => some .cfgMaxsens
  | _ => none

/-- `x[NAME]` as the host reads it (R62): every reserved bit zero, `CMD` zero (R41), the mirrors of `cfg` (R42). -/
def readReg (r : RegName) (s : State) : Word :=
  match r with
  | .clk => s.clk
  | .freq => s.freq
  | .pct => s.pct
  | .topin => s.topin.setWidth 32
  | .nsens => s.nsens.setWidth 32
  | .temp0 => s.temp0
  | .temp1 => s.temp1
  | .temp2 => s.temp2
  | .temp3 => s.temp3
  | .temp4 => s.temp4
  | .status => statusWord s.status
  | .rtop => s.rtop.setWidth 32
  | .rcmp => s.rcmp.setWidth 32
  | .rach => s.rach
  | .cstate => cstateWord s.cstate
  | .errcnt => s.errcnt.setWidth 32
  | .dutyreq => s.dutyreq
  | .pwmctl => pwmctlWord s.params s.pwmConfigured
  | .pwmtop => s.pwmtop.setWidth 32
  | .pwmcmp => s.pwmcmp.setWidth 32
  | .tickctl => tickctlWord s.params s.tickConfigured s.tickIen
  | .ticktop => s.ticktop.setWidth 32
  | .pins => pinsWord s.fanEn s.errInd
  | .cmd => 0#32
  | .cfgTmax => s.cfg.tmax
  | .cfgDelta => s.cfg.delta
  | .cfgMinfan => s.cfg.minfan
  | .cfgMaxerr => s.cfg.maxerr.setWidth 32
  | .cfgSent => s.cfg.sentinel
  | .cfgMaxsens => s.cfg.maxsens.setWidth 32

/-- What `MemRead(i, 4)` returns (R62): 0 for a reserved index (R43). -/
def readIndex (i : Index) (s : State) : Word :=
  match regAt i with
  | some r => readReg r s
  | none => 0#32

/-- What a write stores in the register it names (R63): the read and write registers store the value, `TOPIN` its
bits `[15:0]`, `NSENS` its bits `[7:0]`; a read-only register and a mirror ignore it. `CMD` stores nothing (R41): its
write starts a command, which is `Machine.busWrite`'s. -/
def storeReg (r : RegName) (v : Word) (s : State) : State :=
  match r with
  | .clk => { s with clk := v }
  | .freq => { s with freq := v }
  | .pct => { s with pct := v }
  | .topin => { s with topin := v.setWidth 16 }
  | .nsens => { s with nsens := v.setWidth 8 }
  | .temp0 => { s with temp0 := v }
  | .temp1 => { s with temp1 := v }
  | .temp2 => { s with temp2 := v }
  | .temp3 => { s with temp3 := v }
  | .temp4 => { s with temp4 := v }
  | .status | .rtop | .rcmp | .rach | .cstate | .errcnt | .dutyreq => s
  | .pwmctl | .pwmtop | .pwmcmp | .tickctl | .ticktop | .pins => s
  | .cmd => s
  | .cfgTmax | .cfgDelta | .cfgMinfan | .cfgMaxerr | .cfgSent | .cfgMaxsens => s

end Sys2Proof.Machine
end

