-- ==== Sys2Proof/Machine/PeriodicTimer.lean ====
section
/-! DEFINITION. The PeriodicTimer command TICKCFG (spec/42_periodictimer.md). -/

namespace Sys2Proof.Machine

/-- The actions of a successful TICKCFG, in the order of R140 and R142. -/
def configureTick (top : Half) (s : State) : State :=
  setTickConfigured
    (emit .tickCntClr
      (armTick
        (driveTickTop top
          (emit .tickFlagClr
            (emit (.tickMode (prescCode s.params.tickPrescaler)) s)))))

/-- TICKCFG (R140): the top count is validated before anything is written. -/
def execTickcfg (s : State) : Host.Outcome State Fault Refusal :=
  match computeTop (opF s) (opC s) (divider s.params.tickPrescaler) (widthBits s.params.tickBits) with
  | .overflow => .next (raise .overflow s)
  | .ok top => .next (raise .ok (configureTick (BitVec.ofNat 16 top) s))

end Sys2Proof.Machine
end

