-- ==== Sys2Proof/Machine/PwmChannel.lean ====
section
/-! DEFINITION. The PwmChannel commands PWMCFG and PWMDUTY (spec/41_pwmchannel.md). -/

namespace Sys2Proof.Machine

/-- The actions of a successful PWMCFG, in the order of R120 and R121. -/
def configurePwm (top : Half) (s : State) : State :=
  setPwmConfigured
    (drivePwmCmp 0#16
      (drivePwmTop top
        (emit .pwmFlagClr
          (emit (.pwmMode (prescCode s.params.pwmPrescaler)) s))))

/-- PWMCFG (R120): the top count is validated before anything is written (R122). -/
def execPwmcfg (s : State) : Host.Outcome State Fault Refusal :=
  match computeTop (opF s) (opC s) (divider s.params.pwmPrescaler) (widthBits s.params.pwmBits) with
  | .overflow => .next (raise .overflow s)
  | .ok top => .next (raise .ok (configurePwm (BitVec.ofNat 16 top) s))

/-- PWMDUTY (R124): on an unconfigured channel `NOT_CONFIGURED` and nothing else (R126). -/
def execPwmduty (s : State) : Host.Outcome State Fault Refusal :=
  if s.pwmConfigured then .next (raise .ok (driveDuty (opP s) s)) else .next (raise .notConfigured s)

end Sys2Proof.Machine
end

