-- ==== Sys2Proof/Machine/ThermalController.lean ====
section
/-! DEFINITION. The ThermalController command CYCLE (spec/43_thermalcontroller.md). -/

namespace Sys2Proof.Machine

/-! ## Classification (R152 to R156) -/

/-- The least of a snapshot's readings (R153). The snapshot `classify` gives it is never empty, so the value for the
empty list is read by nothing. -/
def least : List Int → Int
  | [] => 0
  | [t] => t
  | t :: ts => min t (least ts)

/-- The greatest of a snapshot's readings (R153). -/
def greatest : List Int → Int
  | [] => 0
  | [t] => t
  | t :: ts => max t (greatest ts)

/-- The lower threshold `tmin = cfg.tmax - cfg.delta`, an unbounded integer (R155). -/
def lowerThreshold (c : Cfg) : Int := fxInt c.tmax - fxInt c.delta

/-- Step 3, the thresholds (R154), on the greatest reading. -/
def classifyMax (c : Cfg) (mx : Int) : ControlState :=
  if mx ≥ fxInt c.tmax then .hot else if mx ≥ lowerThreshold c then .warm else .cold

/-- Steps 1 to 3 in their order (R152, R153, R154, R156): the count check, the disconnect check on the least reading,
the thresholds. `n` is the sensor count, `t` the five readings, of which the first `n` count. -/
def classify (c : Cfg) (n : Nat) (t : List Int) : ControlState :=
  if n = 0 ∨ n > c.maxsens.toNat then .error
  else if least (t.take n) = fxInt c.sentinel then .error
  else classifyMax c (greatest (t.take n))

/-! ## The state actions (R157 to R164) -/

/-- `applyDuty(d)` (R162): the state after it and the status it returns. -/
def applyDuty (d : Int) (s : State) : State × StatusCode :=
  if s.pwmConfigured then (driveDuty d (setDutyreq (fxWord d) s), .ok)
  else (setDutyreq (fxWord d) s, .notConfigured)

/-- HOT (R157). -/
def actHot (s : State) : State × StatusCode := applyDuty HUNDRED (driveFan true (setErrcnt 0#8 s))

/-- The WARM duty in FX units (R159, R160): `HUNDRED - A*B/D`, rounded once. -/
def warmDuty (c : Cfg) (mx : Int) : Int :=
  rnd (HUNDRED * fxInt c.delta - (HUNDRED - fxInt c.minfan) * (fxInt c.tmax - mx)) (fxInt c.delta)

/-- WARM (R160). -/
def actWarm (mx : Int) (s : State) : State × StatusCode :=
  applyDuty (warmDuty s.cfg mx) (driveFan true (setErrcnt 0#8 s))

/-- COLD (R161): the fan is stopped by the enable line alone, the duty is 100 %. -/
def actCold (s : State) : State × StatusCode := applyDuty HUNDRED (driveFan false (setErrcnt 0#8 s))

/-- `n` pulses of the error indicator: high, `Delay`, low, `Delay`, each (R164). -/
def pulses : Nat → State → State
  | 0, s => s
  | n + 1, s => pulses n (emit .delay (driveErr false (emit .delay (driveErr true s))))

/-- The counter of an ERROR cycle (R163): incremented and compared before it is narrowed, and the trip. -/
def countError (s : State) : State :=
  if s.errcnt.toNat + 1 > s.cfg.maxerr.toNat then setErrcnt 0#8 (driveFan false s)
  else setErrcnt (BitVec.ofNat 8 (s.errcnt.toNat + 1)) s

/-- ERROR (R163, R164). -/
def actError (s : State) : State × StatusCode := (pulses PULSES (countError s), .ok)

/-- The action of the classified state (R150). -/
def act (st : ControlState) (s : State) : State × StatusCode :=
  match st with
  | .hot => actHot s
  | .warm => actWarm (greatest (snapshot s)) s
  | .cold => actCold s
  | .error => actError s

/-! ## The command -/

/-- The control state of the snapshot now in the registers. -/
def cycleState (s : State) : ControlState := classify s.cfg (sensorCount s) (readings s)

/-- What every cycle does after its action (R150, R168). -/
def finishCycle (st : ControlState) (r : State × StatusCode) : State :=
  raise r.2 (consumeSnapshot (setCstate st r.1))

/-- CYCLE (R150). -/
def execCycle (s : State) : Host.Outcome State Fault Refusal :=
  .next (finishCycle (cycleState s) (act (cycleState s) s))

end Sys2Proof.Machine
end

