-- ==== Sys2Proof/Machine/TimerMath.lean ====
section
/-! DEFINITION. The TimerMath commands TOP and CMP (spec/40_timermath.md). -/

namespace Sys2Proof.Machine

/-- TOP with a legal prescaler: `RTOP` on success, `STATUS` always (R100). -/
def topWith (P b : Nat) (s : State) : State :=
  match computeTop (opF s) (opC s) P b with
  | .overflow => raise .overflow s
  | .ok top => raise .ok (setRtop (BitVec.ofNat 16 top) s)

/-- TOP (R100): a reserved `PSEL` gives `BAD_OPERAND` and nothing else. -/
def execTop (psel : BitVec 3) (bw : BitVec 1) (s : State) : Host.Outcome State Fault Refusal :=
  match prescOfCode psel with
  | none => .next (raise .badOperand s)
  | some P => .next (topWith (divider P) (widthBits (widthOfCode bw)) s)

/-- CMP (R105): it cannot fail. -/
def execCmp (s : State) : Host.Outcome State Fault Refusal :=
  .next (raise .ok
    (setQuantized (BitVec.ofNat 16 (computeCompare (opT s) (opP s)).1) (fxWord (computeCompare (opT s) (opP s)).2) s))

end Sys2Proof.Machine
end

