-- ==== Sys2Proof/Machine/Dispatch.lean ====
section
/-! DEFINITION. The dispatch: one arm per command of spec/30_encoding.md R82. -/

namespace Sys2Proof.Machine

def exec (i : Instr) (s : State) : Host.Outcome State Fault Refusal :=
  match i with
  | .top psel bw => Sys2Proof.Machine.execTop psel bw s
  | .cmp => Sys2Proof.Machine.execCmp s
  | .pwmcfg => Sys2Proof.Machine.execPwmcfg s
  | .pwmduty => Sys2Proof.Machine.execPwmduty s
  | .tickcfg => Sys2Proof.Machine.execTickcfg s
  | .cycle => Sys2Proof.Machine.execCycle s

end Sys2Proof.Machine
end

