-- ==== Sys2Proof/Machine/Bus.lean ====
section
/-! DEFINITION. What one act of the host does to HBC (spec/20_memory.md R60, R62, R63; spec/70_reset_and_hazards.md
R200). HBC fetches nothing (spec/10_state.md R21): its next act is the head of the host's script (log 1). -/

namespace Sys2Proof.Machine

/-- A word written to `CMD` (R41, R80): the command it encodes, or `ILLEGAL_CMD` and nothing else (R83). -/
def runCommand (w : Word) (s : State) : Host.Outcome State Fault Refusal :=
  match decode w with
  | .instr i => exec i s
  | .illegal _ => .next (raise .illegalCmd s)

/-- `Read(i)` (R62): the value goes to the host, nothing of HBC changes. -/
def busRead (i : Index) (s : State) : State := { s with reads := s.reads ++ [readIndex i s] }

/-- `Write(i, v)` (R63): to `CMD` a command, to a reserved index nothing, else `storeReg`. -/
def busWrite (i : Index) (v : Word) (s : State) : Host.Outcome State Fault Refusal :=
  match regAt i with
  | none => .next s
  | some .cmd => runCommand v s
  | some r => .next (storeReg r v s)

/-- A reset that latches `c` (R200): every register at R52's value, the trace empty, the instance's parameters and
what the host has still to present as before. An ill-formed `c` is no configuration of this hardware (R7). -/
def hardReset (c : Cfg) (s : State) : Host.Outcome State Fault Refusal :=
  if c.WellFormed then .next { State.resetWith s.params c with script := s.script }
  else .refused (.illFormedConfig c.maxsens)

/-- One act of the host. -/
def present (a : HostAct) (s : State) : Host.Outcome State Fault Refusal :=
  match a with
  | .bus (.read i) => .next (busRead i s)
  | .bus (.write i v) => busWrite i v s
  | .reset c => hardReset c s

/-- The act the host presents next is taken off its script. -/
def withScript (rest : List HostAct) (s : State) : State := { s with script := rest }

/-- One step: the next act of the script; with none, HBC waits (R201, log 2: nothing changes). -/
def hostStep (s : State) : Host.Outcome State Fault Refusal :=
  match s.script with
  | [] => .next s
  | a :: rest => present a (withScript rest s)

/-- The act that issues the command word `w`: `Write(0x1F, w)` (R80, R90). -/
def commandAct (w : Word) : HostAct := .bus (.write (indexOf .cmd) w)

end Sys2Proof.Machine
end

