-- ==== Sys2Proof/Machine/Step.lean ====
section
/-! DEFINITION. The step, and the host's way to give the machine its next command word. -/

namespace Sys2Proof.Machine

/-- One step of HBC: one act of the host (spec/20_memory.md R60). -/
def step (s : State) : Host.Outcome State Fault Refusal := hostStep s

/-- `s` with the command word of `nbits` and `w` written to `CMD` as the very next act of the host. HBC has no program
memory (spec/10_state.md R21): the word a step runs is the one the host presents next. -/
def State.withFetchWord (s : State) (nbits w : Nat) : State :=
  withScript (commandAct (tableWord nbits w) :: s.script) s

end Sys2Proof.Machine
end

