-- ==== Sys2Proof/Machine/Script.lean ====
section
/-! DEFINITION. Command scripts (spec/30_encoding.md R90) and the pseudo-instructions (R91), as bus operations. -/

namespace Sys2Proof.Machine

/-- One line of a command script (R90): `WR reg, value`, `RD reg`, `CMD mnemonic`. -/
inductive ScriptLine where
  | wr (r : RegName) (v : Word)
  | rd (r : RegName)
  | cmd (i : Instr)
  deriving DecidableEq, Repr

/-- The bus operation of a line (R90). -/
def lineOp : ScriptLine → BusOp
  | .wr r v => .write (indexOf r) v
  | .rd r => .read (indexOf r)
  | .cmd i => .write (indexOf .cmd) (encode i)

/-- The host's acts that a script stands for. -/
def scriptActs (lines : List ScriptLine) : List HostAct := lines.map fun l => .bus (lineOp l)

/-- `CMD TOP <P>, <bits>` (R90). -/
def topLine (P : Prescaler) (b : Width) : ScriptLine := .cmd (.top (prescCode P) (widthCode b))

/-- `fx(num/den)` (R9, R90), for a rational that FX represents exactly. -/
def fx (num : Int) (den : Nat) : Word := BitVec.ofInt 32 (num * 65536 / den)

/-- `hz(num/den)` (R10, R90), for a frequency that `FREQ` represents exactly. -/
def hz (num den : Nat) : Word := BitVec.ofNat 32 (num * 256 / den)

/-- `PWM.CONFIGURE f, clk` (R91), with `f` the `FREQ` integer `hz(f)`. -/
def pwmConfigure (f clk : Word) : List ScriptLine := [.wr .freq f, .wr .clk clk, .cmd .pwmcfg, .rd .status]

/-- `PWM.SETDUTY p` (R91), with `p` the FX integer `fx(p)`. -/
def pwmSetDuty (p : Word) : List ScriptLine := [.wr .pct p, .cmd .pwmduty, .rd .rach]

/-- `TICK.CONFIGURE f, clk` (R91). -/
def tickConfigure (f clk : Word) : List ScriptLine := [.wr .freq f, .wr .clk clk, .cmd .tickcfg, .rd .status]

/-- `MATH.TOP f, clk, P, bits` (R91). -/
def mathTop (f clk : Word) (P : Prescaler) (b : Width) : List ScriptLine :=
  [.wr .freq f, .wr .clk clk, topLine P b, .rd .status, .rd .rtop]

/-- `MATH.COMPARE top, p` (R91). -/
def mathCompare (top p : Word) : List ScriptLine :=
  [.wr .topin top, .wr .pct p, .cmd .cmp, .rd .rcmp, .rd .rach]

/-- `WR TEMP0, t0; ...` for as many readings as there are sample registers (R91). -/
def writeReadings (ts : List Word) : List ScriptLine :=
  List.zipWith ScriptLine.wr [.temp0, .temp1, .temp2, .temp3, .temp4] ts

/-- `CTRL.CYCLE t0, ..., t(n-1)` (R91). With no reading, or more than there are sample registers, "only `WR NSENS, n`
and `CMD CYCLE` are issued": the closing `RD CSTATE` is left out too (DEDUCED, log 9). -/
def ctrlCycle (ts : List Word) : List ScriptLine :=
  if ts.length = 0 ∨ ts.length > NTEMP then [.wr .nsens (BitVec.ofNat 32 ts.length), .cmd .cycle]
  else writeReadings ts ++ [.wr .nsens (BitVec.ofNat 32 ts.length), .cmd .cycle, .rd .cstate]

end Sys2Proof.Machine
end

