-- ==== Sys2Proof/Safety.lean ====
section
/-! DEFINITION. The terms in which statements about HBC are made: the invariant of spec/10_state.md R44, what the
collaborators have been told by the output trace (R50, R51), repeated commands, and how long a command blocks. -/

namespace Sys2Proof.Machine

/-- "After reset and after every bus operation, all of these hold", (a) to (f) of R44. -/
structure RegisterInvariant (s : State) : Prop where
  /-- (a) -/
  pwmTop : s.pwmConfigured = true → s.pwmtop.toNat ≤ 2 ^ widthBits s.params.pwmBits - 1
  /-- (b) -/
  pwmCmp : s.pwmcmp.toNat ≤ s.pwmtop.toNat
  /-- (c) -/
  tickTop : s.tickConfigured = true → s.ticktop.toNat ≤ 2 ^ widthBits s.params.tickBits - 1
  /-- (d) -/
  errcnt : s.errcnt.toNat ≤ s.cfg.maxerr.toNat
  /-- (e), the compare value -/
  rcmp : s.rcmp.toNat ≤ 65535
  /-- (e), the achieved percentage -/
  rach : 0 ≤ s.rach.toInt ∧ s.rach.toInt ≤ 6553600
  /-- (f) -/
  armed : s.tickIen = s.tickConfigured

/-- What the PWM timer, the periodic timer and the two outputs have been told (R51). -/
structure Outputs where
  /-- the prescaler code of the PWM timer's fast-PWM mode, if it was set -/
  pwmMode : Option (BitVec 3)
  pwmTop : Half
  pwmCmp : Half
  /-- the prescaler code of the periodic timer's compare-match mode, if it was set -/
  tickMode : Option (BitVec 3)
  tickTop : Half
  /-- the recurring notification is armed -/
  tickArmed : Bool
  fan : Bool
  err : Bool
  deriving DecidableEq, Repr

/-- Nothing told yet: the levels and values the registers show after reset (R52, R200). -/
def Outputs.untold : Outputs where
  pwmMode := none
  pwmTop := 0#16
  pwmCmp := 0#16
  tickMode := none
  tickTop := 0#16
  tickArmed := false
  fan := false
  err := false

/-- One event told to the collaborators (R51). The flag clears, the counter clear and a delay leave no setting. -/
def Outputs.tell (o : Outputs) : OutEvent → Outputs
  | .pwmMode psel => { o with pwmMode := some psel }
  | .pwmFlagClr => o
  | .pwmTop v => { o with pwmTop := v }
  | .pwmCmp v => { o with pwmCmp := v }
  | .tickMode psel => { o with tickMode := some psel }
  | .tickFlagClr => o
  | .tickTop v => { o with tickTop := v }
  | .tickIen => { o with tickArmed := true }
  | .tickCntClr => o
  | .fanEn b => { o with fan := b }
  | .errInd b => { o with err := b }
  | .delay => o

/-- What a trace has told the collaborators. -/
def outputsOf (trace : List OutEvent) : Outputs := trace.foldl Outputs.tell Outputs.untold

/-- The channel and pin registers "mirror what the timers were told" (spec/10_state.md section 4, R35 to R40), and the
error indicator is low between the host's acts (R164). -/
structure TraceMirror (s : State) : Prop where
  pwmMode : (outputsOf s.trace).pwmMode =
    if s.pwmConfigured then some (prescCode s.params.pwmPrescaler) else none
  pwmTop : (outputsOf s.trace).pwmTop = s.pwmtop
  pwmCmp : (outputsOf s.trace).pwmCmp = s.pwmcmp
  tickMode : (outputsOf s.trace).tickMode =
    if s.tickConfigured then some (prescCode s.params.tickPrescaler) else none
  tickTop : (outputsOf s.trace).tickTop = s.ticktop
  tickArmed : (outputsOf s.trace).tickArmed = s.tickIen
  fan : (outputsOf s.trace).fan = s.fanEn
  err : (outputsOf s.trace).err = s.errInd
  errLow : s.errInd = false

/-- `k` steps, stopping at the first refusal: "the state after the sequence is the fold of `step` over it"
(spec/20_memory.md R68). It is `Host.Core.run` of this machine (`Laws`: `run_eq_core_run`). -/
def run : Nat → State → Host.Outcome State Fault Refusal
  | 0, s => .next s
  | k + 1, s =>
    match step s with
    | .next t => run k t
    | .fault r => .fault r
    | .refused r => .refused r

/-- `k` CYCLE commands one after another, the host writing nothing between them (R163, R168). -/
def cycles : Nat → State → Host.Outcome State Fault Refusal
  | 0, s => .next s
  | k + 1, s =>
    match exec .cycle s with
    | .next t => cycles k t
    | .fault r => .fault r
    | .refused r => .refused r

/-- The sixteen events of an ERROR cycle's alarm (R164). -/
def alarm : List OutEvent :=
  [.errInd true, .delay, .errInd false, .delay, .errInd true, .delay, .errInd false, .delay,
   .errInd true, .delay, .errInd false, .delay, .errInd true, .delay, .errInd false, .delay]

/-- How long the events of one command block the bus, in EIGHTHS of the unit of `cfg.cycle_period`: each `Delay` lasts
`PULSE_DELAY = cfg.cycle_period / 8` (R213, R214), and nothing else has a stated duration (R215). -/
def blockedEighths (c : Cfg) (events : List OutEvent) : Nat :=
  (events.filter (· == .delay)).length * c.cyclePeriod

/-- The register `f` comes out the same of two runs `s₁` to `t₁` and `s₂` to `t₂` if the command wrote it (`wrote`), or
if it was the same before: a failing or partial command keeps it (spec/30_encoding.md R86). -/
def SameAfter {α : Type} (f : State → α) (wrote : Prop) (s₁ t₁ s₂ t₂ : State) : Prop :=
  wrote ∨ f s₁ = f s₂ → f t₁ = f t₂

/-! ## The formulas of the rules, spelled out for the statements -/

/-- `r = rnd(256*C, P*F) = floor((512*C + P*F) / (2*P*F))`, spec/40_timermath.md R101, on naturals. -/
def topQuotient (F C P : Nat) : Nat := (512 * C + P * F) / (2 * (P * F))

/-- When the top count `r - 1` is accepted: `F > 0` and `1 <= r <= 2^b` (R102, R103). -/
abbrev TopFits (F C P b : Nat) : Prop := 0 < F ∧ 1 ≤ topQuotient F C P ∧ topQuotient F C P ≤ 2 ^ b

/-- `pc = clamp(p, 0, HUNDRED)`, R106. -/
def clampedPct (p : Int) : Int := max 0 (min p 6553600)

/-- `raw = floor((2*(T+1)*pc + 6553600) / 13107200)`, R106. -/
def quantRaw (T : Nat) (p : Int) : Int := (2 * (T + 1) * clampedPct p + 6553600) / 13107200

/-- `c`, R106 and R107. -/
def quantCompare (T : Nat) (p : Int) : Nat := if quantRaw T p = 0 then T else (quantRaw T p - 1).toNat

/-- `a = floor((2*6553600*(c+1) + (T+1)) / (2*(T+1)))`, R106 and R108. -/
def quantAchieved (T : Nat) (p : Int) : Int :=
  (13107200 * (quantCompare T p + 1) + (T + 1)) / (2 * (T + 1))

/-- The state after a duty request `p` is driven on the active top count: the compare value told to the timer, and the
two result registers (R124, R162). -/
def afterDuty (p : Int) (s : State) : State :=
  { s with
    pwmcmp := BitVec.ofNat 16 (quantCompare s.pwmtop.toNat p)
    rcmp := BitVec.ofNat 16 (quantCompare s.pwmtop.toNat p)
    rach := BitVec.ofInt 32 (quantAchieved s.pwmtop.toNat p)
    trace := s.trace ++ [.pwmCmp (BitVec.ofNat 16 (quantCompare s.pwmtop.toNat p))] }

/-- The state after a cycle's report and the consumption of its snapshot (R150, R168). -/
def afterCycle (st : ControlState) (code : StatusCode) (s : State) : State :=
  { s with
    cstate := some st, status := code, nsens := 0#8
    temp0 := s.cfg.sentinel, temp1 := s.cfg.sentinel, temp2 := s.cfg.sentinel
    temp3 := s.cfg.sentinel, temp4 := s.cfg.sentinel }

/-- The readings of the snapshot, spelled out: the first `NSENS` of the five, signed (R153). -/
def usedReadings (s : State) : List Int :=
  [s.temp0.toInt, s.temp1.toInt, s.temp2.toInt, s.temp3.toInt, s.temp4.toInt].take s.nsens.toNat

end Sys2Proof.Machine
end

