-- ==== Sys2Proof/Certificates/Slice0/Obligations.lean ====
section
/-! DEFINITION. The statements for the provers, each with the rule of spec/ it formalises. Arithmetic is written out
in the statements rather than through the model's own `rnd`, `computeTop` and `computeCompare`. -/

open Sys2Proof Sys2Proof.Machine

/-! ## Encoding -/

/-- R80, R81, R82: no bit of a command is dropped, and a legal word is the word of one command only. -/
def Obligations.DecodeAndEncodeAgree : Prop :=
  (∀ i : Instr, i.wellFormed = true → decode (encode i) = .instr i) ∧
    ∀ (w : Word) (i : Instr), decode w = .instr i → w = encode i

/-- R82, spec/opcode_table.json: a word is a command exactly when it matches a row of the table, and the rows are
disjoint: the table's rows agree with the decoder. -/
def Obligations.LegalWordsAreTheTableRows : Prop :=
  (∀ w : Word, (∃ i, decode w = .instr i) ↔ ∃ row ∈ opcodeRows, w &&& row.mask = row.pattern) ∧
    ∀ (w : Word) (r₁ r₂ : OpRow), r₁ ∈ opcodeRows → r₂ ∈ opcodeRows →
      w &&& r₁.mask = r₁.pattern → w &&& r₂.mask = r₂.pattern → r₁ = r₂

/-- R80: the decoding of a command word `w` written to `CMD`, by its `OP = w mod 16`, and what each arm executes or
raises. -/
def Obligations.CommandWordDecoding : Prop :=
  ∀ (w : Word) (s : State),
    (w.toNat % 16 = 0 ∨ 7 ≤ w.toNat % 16 → runCommand w s = .next { s with status := .illegalCmd }) ∧
    (2 ≤ w.toNat % 16 → w.toNat % 16 ≤ 6 → w.toNat / 16 ≠ 0 →
      runCommand w s = .next { s with status := .illegalCmd }) ∧
    (w.toNat % 16 = 1 → w.toNat / 256 ≠ 0 → runCommand w s = .next { s with status := .illegalCmd }) ∧
    (w.toNat % 16 = 2 → w.toNat / 16 = 0 → runCommand w s = exec .cmp s) ∧
    (w.toNat % 16 = 3 → w.toNat / 16 = 0 → runCommand w s = exec .pwmcfg s) ∧
    (w.toNat % 16 = 4 → w.toNat / 16 = 0 → runCommand w s = exec .pwmduty s) ∧
    (w.toNat % 16 = 5 → w.toNat / 16 = 0 → runCommand w s = exec .tickcfg s) ∧
    (w.toNat % 16 = 6 → w.toNat / 16 = 0 → runCommand w s = exec .cycle s) ∧
    (w.toNat % 16 = 1 → w.toNat / 256 = 0 →
      runCommand w s =
        exec (.top (BitVec.ofNat 3 (w.toNat / 16 % 8)) (BitVec.ofNat 1 (w.toNat / 128 % 2))) s)

/-- R82: the words of spec/30_encoding.md, and TOP words of spec/95_test_vectors.md, decode to what they stand for. -/
def Obligations.SampleWordsDecode : Prop :=
  decode 0x00000021#32 = .instr (.top 2#3 0#1) ∧ decode 0x000000B1#32 = .instr (.top 3#3 1#1) ∧
    decode 0x00000061#32 = .instr (.top 6#3 0#1) ∧ decode 0x00000002#32 = .instr .cmp ∧
    decode 0x00000003#32 = .instr .pwmcfg ∧ decode 0x00000004#32 = .instr .pwmduty ∧
    decode 0x00000005#32 = .instr .tickcfg ∧ decode 0x00000006#32 = .instr .cycle ∧
    decode 0x00000000#32 = .illegal (.reservedOpcode 0#4) ∧ decode 0x00000121#32 = .illegal (.mustBeZero "TOP") ∧
    decode 0x80000006#32 = .illegal (.mustBeZero "CYCLE") ∧ decode 0x0000000F#32 = .illegal (.reservedOpcode 15#4)

/-! ## The step -/

/-- R60, R80: when the host's next act writes a command word to `CMD`, the step runs the decoded command on the state
with that act taken. -/
def Obligations.StepRunsTheDecodedCommand : Prop :=
  ∀ (s : State) (w : Word) (i : Instr) (rest : List HostAct),
    s.script = .bus (.write 0x1F#6 w) :: rest → decode w = .instr i →
      step s = exec i { s with script := rest }

/-- The same for a word of the opcode table given as the very next act (`withFetchWord`), whatever the host had still
to present; log 1: the script is the model's. -/
def Obligations.GivenTableWordRunsNext : Prop :=
  ∀ (s : State) (nbits w : Nat) (i : Instr),
    decodeTableWord nbits w = some i → step (s.withFetchWord nbits w) = exec i s

/-- R83: an illegal word sets `STATUS` and does nothing else; a TOP word with a reserved `PSEL` is legal and ends with
`BAD_OPERAND`. -/
def Obligations.IllegalWordOnlySetsStatus : Prop :=
  ∀ (s : State) (w : Word) (rest : List HostAct), s.script = .bus (.write 0x1F#6 w) :: rest →
    ((w.toNat % 16 = 0 ∨ 7 ≤ w.toNat % 16 ∨ (w.toNat % 16 ≠ 1 ∧ 16 ≤ w.toNat) ∨ 256 ≤ w.toNat) →
      step s = .next { s with script := rest, status := .illegalCmd }) ∧
    (w.toNat % 16 = 1 → w.toNat < 256 → w.toNat / 16 % 8 = 0 ∨ w.toNat / 16 % 8 = 6 ∨ w.toNat / 16 % 8 = 7 →
      step s = .next { s with script := rest, status := .badOperand })

/-- R201 (HBC waits for the first bus operation), log 2: DEDUCED, a step with nothing presented changes nothing. -/
def Obligations.StepWaitsForTheHost : Prop := ∀ s : State, s.script = [] → step s = .next s

/-- R200, R7: a reset latches a well-formed configuration and leaves every register at R52's value and the trace
empty; log 4: DESIGN CHOICE, a configuration with `maxsens > NTEMP` is refused by name. Log 8: DEDUCED, the model's
reading, that the reset lands as an act between bus operations, keeps the parameters and what the host has still to
present, and clears `reads`. -/
def Obligations.ResetActLatchesTheConfiguration : Prop :=
  ∀ (s : State) (c : Cfg) (rest : List HostAct), s.script = .reset c :: rest →
    (c.maxsens.toNat ≤ 5 → step s = .next { State.resetWith s.params c with script := rest }) ∧
    (5 < c.maxsens.toNat → step s = .refused (.illFormedConfig c.maxsens))

/-- R182: no command and no act of the host stops HBC: every command completes, and every step does, but for a reset
that presents no configuration of this hardware (R7; refusing that one is the model's DESIGN CHOICE, log 4). -/
def Obligations.EveryActCompletes : Prop :=
  (∀ (i : Instr) (s : State), ∃ t, exec i s = .next t) ∧
    ∀ s : State, (∃ t, step s = .next t) ∨ ∃ c rest, s.script = .reset c :: rest ∧ 5 < c.maxsens.toNat

/-- R50: a command or another act of the host only appends to the output trace, and only a write to `CMD` appends. -/
def Obligations.TraceOnlyGrows : Prop :=
  ∀ s : State, (∀ c rest, s.script ≠ .reset c :: rest) →
    ∃ t es, step s = .next t ∧ t.trace = s.trace ++ es ∧
      ((∀ w rest, s.script ≠ .bus (.write 0x1F#6 w) :: rest) → es = [])

/-! ## Reset and the register map -/

/-- R52: what the host reads after reset, for every configuration and all parameters, and the two constants of this
design; the output trace is empty. -/
def Obligations.ResetValues : Prop :=
  (∀ (p : Params) (c : Cfg),
    (∀ r ∈ [RegName.clk, .freq, .pct, .topin, .nsens, .status, .rtop, .rcmp, .rach, .dutyreq, .cstate, .errcnt,
      .pwmtop, .pwmcmp, .ticktop, .pins], readReg r (State.resetWith p c) = 0#32) ∧
    (∀ r ∈ [RegName.temp0, .temp1, .temp2, .temp3, .temp4], readReg r (State.resetWith p c) = c.sentinel) ∧
    (readReg .pwmctl (State.resetWith p c)).toNat =
      2 * (prescCode p.pwmPrescaler).toNat + 16 * (widthCode p.pwmBits).toNat ∧
    (readReg .tickctl (State.resetWith p c)).toNat =
      2 * (prescCode p.tickPrescaler).toNat + 16 * (widthCode p.tickBits).toNat ∧
    readReg .cfgTmax (State.resetWith p c) = c.tmax ∧ readReg .cfgDelta (State.resetWith p c) = c.delta ∧
    readReg .cfgMinfan (State.resetWith p c) = c.minfan ∧ readReg .cfgSent (State.resetWith p c) = c.sentinel ∧
    (readReg .cfgMaxerr (State.resetWith p c)).toNat = c.maxerr.toNat ∧
    (readReg .cfgMaxsens (State.resetWith p c)).toNat = c.maxsens.toNat ∧
    (State.resetWith p c).trace = []) ∧
  ∀ c : Cfg, readReg .pwmctl (State.resetWith Params.design c) = 0x00000004#32 ∧
    readReg .tickctl (State.resetWith Params.design c) = 0x00000016#32

/-- R62: a read returns the register's 32 bits with every reserved bit zero, 0 for `CMD` and for a reserved index, and
changes nothing of HBC (`script` and `reads` are the host's side, log 1). -/
def Obligations.BusReadReturnsTheRegister : Prop :=
  (∀ (s : State) (i : Index) (rest : List HostAct), s.script = .bus (.read i) :: rest →
    step s = .next { s with script := rest, reads := s.reads ++ [readIndex i s] }) ∧
  ∀ s : State,
    readIndex 0x00#6 s = s.clk ∧ readIndex 0x01#6 s = s.freq ∧ readIndex 0x02#6 s = s.pct ∧
    (readIndex 0x03#6 s).toNat = s.topin.toNat ∧ (readIndex 0x04#6 s).toNat = s.nsens.toNat ∧
    readIndex 0x08#6 s = s.temp0 ∧ readIndex 0x09#6 s = s.temp1 ∧ readIndex 0x0A#6 s = s.temp2 ∧
    readIndex 0x0B#6 s = s.temp3 ∧ readIndex 0x0C#6 s = s.temp4 ∧
    (readIndex 0x10#6 s).toNat = (statusBits s.status).toNat ∧ (readIndex 0x11#6 s).toNat = s.rtop.toNat ∧
    (readIndex 0x12#6 s).toNat = s.rcmp.toNat ∧ readIndex 0x13#6 s = s.rach ∧
    (readIndex 0x14#6 s).toNat = (match s.cstate with | none => 0 | some st => 4 + (stateBits st).toNat) ∧
    (readIndex 0x15#6 s).toNat = s.errcnt.toNat ∧ readIndex 0x16#6 s = s.dutyreq ∧
    (readIndex 0x18#6 s).toNat = s.pwmConfigured.toNat + 2 * (prescCode s.params.pwmPrescaler).toNat +
      16 * (widthCode s.params.pwmBits).toNat ∧
    (readIndex 0x19#6 s).toNat = s.pwmtop.toNat ∧ (readIndex 0x1A#6 s).toNat = s.pwmcmp.toNat ∧
    (readIndex 0x1C#6 s).toNat = s.tickConfigured.toNat + 2 * (prescCode s.params.tickPrescaler).toNat +
      16 * (widthCode s.params.tickBits).toNat + 32 * s.tickIen.toNat ∧
    (readIndex 0x1D#6 s).toNat = s.ticktop.toNat ∧
    (readIndex 0x1E#6 s).toNat = s.fanEn.toNat + 2 * s.errInd.toNat ∧ readIndex 0x1F#6 s = 0#32 ∧
    readIndex 0x20#6 s = s.cfg.tmax ∧ readIndex 0x21#6 s = s.cfg.delta ∧ readIndex 0x22#6 s = s.cfg.minfan ∧
    (readIndex 0x23#6 s).toNat = s.cfg.maxerr.toNat ∧ readIndex 0x24#6 s = s.cfg.sentinel ∧
    (readIndex 0x25#6 s).toNat = s.cfg.maxsens.toNat ∧
    ∀ i : Index, i.toNat ∈ [0x05, 0x06, 0x07, 0x0D, 0x0E, 0x0F, 0x17, 0x1B] ∨ 0x26 ≤ i.toNat → readIndex i s = 0#32

/-- R63: what a write to each index does; a write to `CMD` executes the command word. -/
def Obligations.BusWriteByAccessClass : Prop :=
  ∀ (s : State) (i : Index) (v : Word) (rest : List HostAct), s.script = .bus (.write i v) :: rest →
    step s =
      if i = 0x00#6 then .next { s with script := rest, clk := v }
      else if i = 0x01#6 then .next { s with script := rest, freq := v }
      else if i = 0x02#6 then .next { s with script := rest, pct := v }
      else if i = 0x03#6 then .next { s with script := rest, topin := BitVec.ofNat 16 (v.toNat % 65536) }
      else if i = 0x04#6 then .next { s with script := rest, nsens := BitVec.ofNat 8 (v.toNat % 256) }
      else if i = 0x08#6 then .next { s with script := rest, temp0 := v }
      else if i = 0x09#6 then .next { s with script := rest, temp1 := v }
      else if i = 0x0A#6 then .next { s with script := rest, temp2 := v }
      else if i = 0x0B#6 then .next { s with script := rest, temp3 := v }
      else if i = 0x0C#6 then .next { s with script := rest, temp4 := v }
      else if i = 0x1F#6 then runCommand v { s with script := rest }
      else .next { s with script := rest }

/-- R43: at a reserved index a read returns 0 and a write is ignored. -/
def Obligations.ReservedIndicesReadZeroAndIgnoreWrites : Prop :=
  ∀ (s : State) (i : Index) (v : Word) (rest : List HostAct),
    (i.toNat ∈ [0x05, 0x06, 0x07, 0x0D, 0x0E, 0x0F, 0x17, 0x1B] ∨ 0x26 ≤ i.toNat) →
      (s.script = .bus (.read i) :: rest → step s = .next { s with script := rest, reads := s.reads ++ [0#32] }) ∧
      (s.script = .bus (.write i v) :: rest → step s = .next { s with script := rest })

/-- R42, R7: the mirrors show `cfg`, and nothing but a reset changes them. -/
def Obligations.ConfigurationMirrorsAreConstant : Prop :=
  ∀ s : State, (∀ c rest, s.script ≠ .reset c :: rest) →
    ∃ t, step s = .next t ∧ t.cfg = s.cfg ∧ t.params = s.params ∧
      readIndex 0x20#6 t = s.cfg.tmax ∧ readIndex 0x21#6 t = s.cfg.delta ∧ readIndex 0x22#6 t = s.cfg.minfan ∧
      (readIndex 0x23#6 t).toNat = s.cfg.maxerr.toNat ∧ readIndex 0x24#6 t = s.cfg.sentinel ∧
      (readIndex 0x25#6 t).toNat = s.cfg.maxsens.toNat

/-- R61: the map is a bijection between the 30 named registers and the indices that are not reserved. -/
def Obligations.RegisterMapIsABijection : Prop :=
  (∀ r : RegName, regAt (indexOf r) = some r) ∧ ∀ (i : Index) (r : RegName), regAt i = some r → i = indexOf r

/-! ## TimerMath -/

/-- R100, R101, R102: TOP's result for every word, operand and state. -/
def Obligations.TopCommandResult : Prop :=
  ∀ (psel : BitVec 3) (bw : BitVec 1) (s : State),
    (psel.toNat = 0 ∨ psel.toNat = 6 ∨ psel.toNat = 7 →
      exec (.top psel bw) s = .next { s with status := .badOperand }) ∧
    ∀ P b : Nat, (psel.toNat, P) ∈ [(1, 1), (2, 8), (3, 64), (4, 256), (5, 1024)] →
      (bw.toNat, b) ∈ [(0, 8), (1, 16)] →
      (TopFits s.freq.toNat s.clk.toNat P b →
        exec (.top psel bw) s =
          .next { s with rtop := BitVec.ofNat 16 (topQuotient s.freq.toNat s.clk.toNat P - 1), status := .ok }) ∧
      (¬ TopFits s.freq.toNat s.clk.toNat P b → exec (.top psel bw) s = .next { s with status := .overflow })

/-- R103: `computeTop` succeeds exactly when `1/2 <= 256*C/(P*F) < 2^b + 1/2`; an accepted top is at most `2^b - 1`,
and for the two widths it fits 16 bits. -/
def Obligations.TopRangeCheck : Prop :=
  ∀ F C P b : Nat, 0 < F → 0 < P →
    ((∃ top, computeTop F C P b = .ok top) ↔
      P * F ≤ 512 * C ∧ 512 * C < (2 ^ (b + 1) + 1) * (P * F)) ∧
    (∀ top, computeTop F C P b = .ok top → top ≤ 2 ^ b - 1 ∧ (b = 8 → top ≤ 255) ∧ (b = 16 → top ≤ 65535)) ∧
    ((¬ ∃ top, computeTop F C P b = .ok top) → computeTop F C P b = .overflow)

/-- R102: a zero frequency, and a zero clock, overflow. -/
def Obligations.ZeroFrequencyOverflows : Prop :=
  ∀ F C P b : Nat, computeTop 0 C P b = .overflow ∧ computeTop F 0 P b = .overflow

/-- R104: an accepted top count is nearest: `|x - (top + 1)| <= 1/2` for `x = 256*C/(P*F)`. -/
def Obligations.AcceptedTopIsNearest : Prop :=
  ∀ F C P b top : Nat, 0 < P → computeTop F C P b = .ok top →
    2 * |(256 * C : Int) - P * F * (top + 1)| ≤ P * F

/-- R105, R106: CMP's result for every operand, on every state. -/
def Obligations.CmpCommandResult : Prop :=
  ∀ s : State, exec .cmp s =
    .next { s with
      rcmp := BitVec.ofNat 16 (quantCompare s.topin.toNat s.pct.toInt)
      rach := BitVec.ofInt 32 (quantAchieved s.topin.toNat s.pct.toInt)
      status := .ok }

/-- R109 (a) to (f), which the spec marks as derived from R106 to R108: properties of the quantizer for every top
count and every 32 bit request. -/
def Obligations.QuantizerProperties : Prop :=
  ∀ (top : Half) (p : Word), ∀ T : Nat, T = top.toNat →
    ((computeCompare T p.toInt).1 ≤ T) ∧
    ((computeCompare T p.toInt).2 = 6553600 ↔ (computeCompare T p.toInt).1 = T) ∧
    (computeCompare T 0 = (T, 6553600) ∧ computeCompare T 6553600 = (T, 6553600)) ∧
    (1 ≤ quantRaw T p.toInt →
      |6553600 * ((computeCompare T p.toInt).1 + 1 : Int) - clampedPct p.toInt * (T + 1)| ≤ 50 * 65536) ∧
    ((13107200 + (T + 1)) / (2 * (T + 1)) ≤ (computeCompare T p.toInt).2 ∧
      (100 : Int) ≤ (13107200 + (T + 1)) / (2 * (T + 1))) ∧
    ∀ p₂ : Word, clampedPct p.toInt ≤ clampedPct p₂.toInt → 1 ≤ quantRaw T p.toInt → 1 ≤ quantRaw T p₂.toInt →
      (computeCompare T p.toInt).1 ≤ (computeCompare T p₂.toInt).1

/-- R107: `raw = 0` exactly below half a resolution step, and is remapped to the top count and 100 %; otherwise the
compare value is `raw - 1`; exactly half a step gives compare value 0; the achieved value is never 0 % (the region is
an inference the spec marks as its own: "derived: from rule R106 and 00_scope.md rule R11"). -/
def Obligations.RequestsBelowHalfAStepAreRemapped : Prop :=
  ∀ (T : Nat) (p : Int), T ≤ 65535 →
    (quantRaw T p = 0 ↔ 2 * (T + 1) * clampedPct p < 6553600) ∧
    (2 * (T + 1) * clampedPct p < 6553600 → computeCompare T p = (T, 6553600)) ∧
    (6553600 ≤ 2 * (T + 1) * clampedPct p → ((computeCompare T p).1 : Int) = quantRaw T p - 1) ∧
    (2 * (T + 1) * clampedPct p = 6553600 → quantRaw T p = 1 ∧ (computeCompare T p).1 = 0) ∧
    0 < (computeCompare T p).2

/-- R108: the achieved value is `100 * (c + 1) / (T + 1)` rounded once: off by at most half an FX unit, exact when `T
+ 1` divides, and exactly 100 for `c = T` (R108 marks it "derived: from rule R107"). -/
def Obligations.AchievedPercentIsRoundedOnce : Prop :=
  ∀ T c : Nat, c ≤ T →
    2 * |achieved T c * (T + 1) - 6553600 * (c + 1)| ≤ T + 1 ∧
    ((T + 1 : Int) ∣ 6553600 * (c + 1) → achieved T c * (T + 1) = 6553600 * (c + 1)) ∧
    achieved T T = 6553600

/-- spec/90_conflicts.md C1, with R109 (d), which the spec marks as derived: the source's claim that EVERY request in
[0, 100] is achieved within one resolution step is false. With a period of more than one count it fails for every
request below half a step and holds for every other; with a period of one count it holds for all. -/
def Obligations.OneStepBoundFailsBelowHalfAStep : Prop :=
  (∀ (T : Nat) (p : Int), 1 ≤ T → T ≤ 65535 → 0 ≤ p → p ≤ 6553600 →
    (2 * (T + 1) * p < 6553600 → 6553600 < |(computeCompare T p).2 - p| * (T + 1)) ∧
    (6553600 ≤ 2 * (T + 1) * p → |(computeCompare T p).2 - p| * (T + 1) ≤ 6553600)) ∧
  (∀ p : Int, 0 ≤ p → p ≤ 6553600 → |(computeCompare 0 p).2 - p| ≤ 6553600) ∧
  ¬ ∀ (T : Nat) (p : Int), T ≤ 65535 → 0 ≤ p → p ≤ 6553600 →
    |(computeCompare T p).2 - p| * (T + 1) ≤ 6553600

/-! ## PwmChannel -/

/-- R120, R121, R122: PWMCFG's result for every operand and state: the whole configuration with its four events in
order, or `STATUS` alone. -/
def Obligations.PwmcfgCommandResult : Prop :=
  ∀ s : State, ∀ P b r : Nat, P = divider s.params.pwmPrescaler → b = widthBits s.params.pwmBits →
    r = topQuotient s.freq.toNat s.clk.toNat P →
    (TopFits s.freq.toNat s.clk.toNat P b →
      exec .pwmcfg s =
        .next { s with
          pwmConfigured := true, pwmtop := BitVec.ofNat 16 (r - 1), pwmcmp := 0#16, status := .ok
          trace := s.trace ++ [.pwmMode (prescCode s.params.pwmPrescaler), .pwmFlagClr,
            .pwmTop (BitVec.ofNat 16 (r - 1)), .pwmCmp 0#16] } ∧
      (BitVec.ofNat 16 (r - 1)).toNat = r - 1 ∧ r - 1 ≤ 2 ^ b - 1) ∧
    (¬ TopFits s.freq.toNat s.clk.toNat P b → exec .pwmcfg s = .next { s with status := .overflow })

/-- R124, R126: PWMDUTY's result: the duty driven, or `NOT_CONFIGURED` and nothing else. -/
def Obligations.PwmdutyCommandResult : Prop :=
  ∀ s : State,
    (s.pwmConfigured = true → exec .pwmduty s = .next { afterDuty s.pct.toInt s with status := .ok }) ∧
    (s.pwmConfigured = false → exec .pwmduty s = .next { s with status := .notConfigured })

/-- R125: after a successful PWMDUTY the compare value is within the top count, and `RACH` reports the duty the timer
produces, `100 * (PWMCMP + 1) / (PWMTOP + 1)`, to within half an FX unit (R125 marks it "derived" from R108). -/
def Obligations.PwmdutyReportsTheDutyProduced : Prop :=
  ∀ s : State, s.pwmConfigured = true →
    ∃ t, exec .pwmduty s = .next t ∧ t.pwmcmp.toNat ≤ t.pwmtop.toNat ∧ t.rcmp = t.pwmcmp ∧
      2 * |t.rach.toInt * (t.pwmtop.toNat + 1) - 6553600 * (t.pwmcmp.toNat + 1)| ≤ t.pwmtop.toNat + 1

/-! ## PeriodicTimer -/

/-- R140, R142: TICKCFG's result for every operand and state: five events in order, or `STATUS` alone. -/
def Obligations.TickcfgCommandResult : Prop :=
  ∀ s : State, ∀ P b r : Nat, P = divider s.params.tickPrescaler → b = widthBits s.params.tickBits →
    r = topQuotient s.freq.toNat s.clk.toNat P →
    (TopFits s.freq.toNat s.clk.toNat P b →
      exec .tickcfg s =
        .next { s with
          tickConfigured := true, tickIen := true, ticktop := BitVec.ofNat 16 (r - 1), status := .ok
          trace := s.trace ++ [.tickMode (prescCode s.params.tickPrescaler), .tickFlagClr,
            .tickTop (BitVec.ofNat 16 (r - 1)), .tickIen, .tickCntClr] } ∧
      (BitVec.ofNat 16 (r - 1)).toNat = r - 1 ∧ r - 1 ≤ 2 ^ b - 1) ∧
    (¬ TopFits s.freq.toNat s.clk.toNat P b → exec .tickcfg s = .next { s with status := .overflow })

/-- R141, which the spec marks as derived from R140: a successful TICKCFG arms the notification, and nothing but a
reset disarms it. -/
def Obligations.TickStaysArmedUntilReset : Prop :=
  (∀ s : State,
    TopFits s.freq.toNat s.clk.toNat (divider s.params.tickPrescaler) (widthBits s.params.tickBits) →
    ∃ t, exec .tickcfg s = .next t ∧ t.tickIen = true ∧ t.tickConfigured = true ∧
      t.ticktop.toNat ≤ 2 ^ widthBits s.params.tickBits - 1) ∧
  ∀ s : State, (∀ c rest, s.script ≠ .reset c :: rest) → s.tickConfigured = true → s.tickIen = true →
    ∃ t, step s = .next t ∧ t.tickConfigured = true ∧ t.tickIen = true

/-! ## ThermalController -/

/-- R152, R153, R154, R155, R156: which state a cycle reports: the count check, then the sentinel as the least
reading, then the greatest reading against `cfg.tmax` and `cfg.tmax - cfg.delta`. -/
def Obligations.CycleReportsTheClassifiedState : Prop :=
  ∀ s : State, ∃ t, exec .cycle s = .next t ∧ t.cstate = some (cycleState s) ∧
    (s.nsens.toNat = 0 ∨ s.cfg.maxsens.toNat < s.nsens.toNat → cycleState s = .error) ∧
    (0 < s.nsens.toNat → s.nsens.toNat ≤ s.cfg.maxsens.toNat →
      (s.cfg.sentinel.toInt ∈ usedReadings s → (∀ x ∈ usedReadings s, s.cfg.sentinel.toInt ≤ x) →
        cycleState s = .error) ∧
      (¬ (s.cfg.sentinel.toInt ∈ usedReadings s ∧ ∀ x ∈ usedReadings s, s.cfg.sentinel.toInt ≤ x) →
        ((∃ x ∈ usedReadings s, s.cfg.tmax.toInt ≤ x) → cycleState s = .hot) ∧
        ((∀ x ∈ usedReadings s, x < s.cfg.tmax.toInt) →
          (∃ x ∈ usedReadings s, s.cfg.tmax.toInt - s.cfg.delta.toInt ≤ x) → cycleState s = .warm) ∧
        ((∀ x ∈ usedReadings s, x < s.cfg.tmax.toInt ∧ x < s.cfg.tmax.toInt - s.cfg.delta.toInt) →
          cycleState s = .cold)))

/-- R157, R166: a HOT cycle: counter cleared, fan enabled, duty 100 % requested and, on a configured channel, the
compare value at the top. -/
def Obligations.HotCycleResult : Prop :=
  ∀ s : State, cycleState s = .hot →
    (s.pwmConfigured = true → exec .cycle s =
      .next { afterCycle .hot .ok s with
        errcnt := 0#8, fanEn := true, dutyreq := 0x00640000#32
        pwmcmp := s.pwmtop, rcmp := s.pwmtop, rach := 0x00640000#32
        trace := s.trace ++ [.fanEn true, .pwmCmp s.pwmtop] }) ∧
    (s.pwmConfigured = false → exec .cycle s =
      .next { afterCycle .hot .notConfigured s with
        errcnt := 0#8, fanEn := true, dutyreq := 0x00640000#32, trace := s.trace ++ [.fanEn true] })

/-- R160, R162, R166: a WARM cycle with `mx` its greatest reading: the duty `floor((2*(HUNDRED*D - A*B) + D)/(2*D))`
requested and, on a configured channel, quantized and driven. -/
def Obligations.WarmCycleResult : Prop :=
  ∀ (s : State) (mx A B D d : Int), cycleState s = .warm →
    mx ∈ usedReadings s → (∀ x ∈ usedReadings s, x ≤ mx) →
    A = 6553600 - s.cfg.minfan.toInt → B = s.cfg.tmax.toInt - mx → D = s.cfg.delta.toInt →
    d = (2 * (6553600 * D - A * B) + D) / (2 * D) →
    (s.pwmConfigured = true → exec .cycle s =
      .next (afterCycle .warm .ok
        (afterDuty d { s with
          errcnt := 0#8, fanEn := true, dutyreq := BitVec.ofInt 32 d, trace := s.trace ++ [.fanEn true] }))) ∧
    (s.pwmConfigured = false → exec .cycle s =
      .next { afterCycle .warm .notConfigured s with
        errcnt := 0#8, fanEn := true, dutyreq := BitVec.ofInt 32 d, trace := s.trace ++ [.fanEn true] })

/-- R161, R166: a COLD cycle: counter cleared, fan disabled, duty 100 % requested and, on a configured channel, the
compare value at the top. -/
def Obligations.ColdCycleResult : Prop :=
  ∀ s : State, cycleState s = .cold →
    (s.pwmConfigured = true → exec .cycle s =
      .next { afterCycle .cold .ok s with
        errcnt := 0#8, fanEn := false, dutyreq := 0x00640000#32
        pwmcmp := s.pwmtop, rcmp := s.pwmtop, rach := 0x00640000#32
        trace := s.trace ++ [.fanEn false, .pwmCmp s.pwmtop] }) ∧
    (s.pwmConfigured = false → exec .cycle s =
      .next { afterCycle .cold .notConfigured s with
        errcnt := 0#8, fanEn := false, dutyreq := 0x00640000#32, trace := s.trace ++ [.fanEn false] })

/-- R163, R164: an ERROR cycle counts, or trips when the count would exceed `cfg.maxerr`; then the alarm; the channel
and the duty registers are left as they are, configured or not. -/
def Obligations.ErrorCycleResult : Prop :=
  ∀ s : State, cycleState s = .error →
    (s.errcnt.toNat + 1 ≤ s.cfg.maxerr.toNat → exec .cycle s =
      .next { afterCycle .error .ok s with
        errcnt := BitVec.ofNat 8 (s.errcnt.toNat + 1), errInd := false, trace := s.trace ++ alarm }) ∧
    (s.cfg.maxerr.toNat < s.errcnt.toNat + 1 → exec .cycle s =
      .next { afterCycle .error .ok s with
        errcnt := 0#8, fanEn := false, errInd := false, trace := s.trace ++ [.fanEn false] ++ alarm })

/-- R163, R212: with no snapshot written, CYCLE number `k` counts `k` without touching the fan, the channel or the
duty registers, up to `cfg.maxerr`; cycle `cfg.maxerr + 1` trips: the fan is forced off and the counter starts again.
-/
def Obligations.TripOnTheCycleAfterTheLimit : Prop :=
  ∀ s : State, s.nsens = 0#8 → s.errcnt = 0#8 →
    (∀ k : Nat, k ≤ s.cfg.maxerr.toNat →
      ∃ t, cycles k s = .next t ∧ t.errcnt.toNat = k ∧ t.fanEn = s.fanEn ∧
        t.pwmcmp = s.pwmcmp ∧ t.dutyreq = s.dutyreq ∧ t.rcmp = s.rcmp ∧ t.rach = s.rach ∧
        t.trace = s.trace ++ (List.replicate k alarm).flatten) ∧
    ∃ t, cycles (s.cfg.maxerr.toNat + 1) s = .next t ∧ t.errcnt = 0#8 ∧ t.fanEn = false ∧
      t.pwmcmp = s.pwmcmp ∧ t.dutyreq = s.dutyreq ∧ t.rcmp = s.rcmp ∧ t.rach = s.rach ∧
      t.trace = s.trace ++ (List.replicate s.cfg.maxerr.toNat alarm).flatten ++ [.fanEn false] ++ alarm

/-- R168: every cycle consumes the snapshot, so a CYCLE issued without a fresh one is an ERROR cycle. -/
def Obligations.SnapshotIsConsumed : Prop :=
  ∀ s : State, ∃ t u, exec .cycle s = .next t ∧ t.nsens = 0#8 ∧
    t.temp0 = s.cfg.sentinel ∧ t.temp1 = s.cfg.sentinel ∧ t.temp2 = s.cfg.sentinel ∧
    t.temp3 = s.cfg.sentinel ∧ t.temp4 = s.cfg.sentinel ∧
    exec .cycle t = .next u ∧ u.cstate = some .error

/-- R167: the reported state is a function of the snapshot and `cfg`: two machines that differ in anything else report
the same. -/
def Obligations.ClassificationIsMemoryless : Prop :=
  ∀ s₁ s₂ : State, s₁.cfg = s₂.cfg → s₁.nsens = s₂.nsens → usedReadings s₁ = usedReadings s₂ →
    ∃ t₁ t₂, exec .cycle s₁ = .next t₁ ∧ exec .cycle s₂ = .next t₂ ∧ t₁.cstate = t₂.cstate

/-- R158, which the spec marks as derived from R154 and R160: with a band of zero or negative width no snapshot is
WARM, and every valid one is HOT or COLD. -/
def Obligations.EmptyBandIsNeverWarm : Prop :=
  ∀ s : State, s.cfg.delta.toInt ≤ 0 →
    ∃ t, exec .cycle s = .next t ∧ t.cstate ≠ some .warm ∧
      (0 < s.nsens.toNat → s.nsens.toNat ≤ s.cfg.maxsens.toNat →
        ¬ (s.cfg.sentinel.toInt ∈ usedReadings s ∧ ∀ x ∈ usedReadings s, s.cfg.sentinel.toInt ≤ x) →
        t.cstate = some .hot ∨ t.cstate = some .cold)

/-- R159, R160: in the band the WARM duty lies between `cfg.minfan` and 100 %, is the exact ramp rounded once, starts
at `cfg.minfan` at the lower threshold, fits FX, and needs no intermediate of `2^65` or more (R160 marks these bounds
"derived: from rule R154 and 40_timermath.md rule R106"). -/
def Obligations.WarmDutyIsTheRamp : Prop :=
  ∀ (c : Cfg) (mx : Int), c.tmax.toInt - c.delta.toInt ≤ mx → mx < c.tmax.toInt →
    min c.minfan.toInt 6553600 ≤ warmDuty c mx ∧ warmDuty c mx ≤ max c.minfan.toInt 6553600 ∧
    2 * |warmDuty c mx * c.delta.toInt -
      (6553600 * c.delta.toInt - (6553600 - c.minfan.toInt) * (c.tmax.toInt - mx))| ≤ c.delta.toInt ∧
    (mx = c.tmax.toInt - c.delta.toInt → warmDuty c mx = c.minfan.toInt) ∧
    (BitVec.ofInt 32 (warmDuty c mx)).toInt = warmDuty c mx ∧
    |2 * (6553600 * c.delta.toInt - (6553600 - c.minfan.toInt) * (c.tmax.toInt - mx)) + c.delta.toInt| < 2 ^ 65

/-- R169 (a) to (f), which the spec marks as derived from R150 to R168: what a cycle guarantees, on every state whose
error indicator is low, as it always is between the host's acts (`TraceMirror.errLow`). -/
def Obligations.CycleGuarantees : Prop :=
  ∀ s : State, s.errInd = false →
    ∃ t es, exec .cycle s = .next t ∧ t.trace = s.trace ++ es ∧
      (∃ st, t.cstate = some st) ∧
      (0 < s.nsens.toNat → s.nsens.toNat ≤ s.cfg.maxsens.toNat →
        ¬ (s.cfg.sentinel.toInt ∈ usedReadings s ∧ ∀ x ∈ usedReadings s, s.cfg.sentinel.toInt ≤ x) →
        (t.cstate = some .hot ↔ ∃ x ∈ usedReadings s, s.cfg.tmax.toInt ≤ x) ∧
        (t.cstate = some .warm ↔ (∀ x ∈ usedReadings s, x < s.cfg.tmax.toInt) ∧
          ∃ x ∈ usedReadings s, s.cfg.tmax.toInt - s.cfg.delta.toInt ≤ x) ∧
        t.cstate ≠ some .error) ∧
      (t.cstate = some .hot ∨ t.cstate = some .warm → t.fanEn = true) ∧
      (t.cstate = some .cold → t.fanEn = false) ∧
      (t.cstate ≠ some .error → t.errcnt = 0#8) ∧
      (t.cstate = some .hot ∨ t.cstate = some .cold → s.pwmConfigured = true → t.pwmcmp = t.pwmtop) ∧
      t.errInd = false ∧ t.errcnt.toNat ≤ t.cfg.maxerr.toNat ∧
      (t.cstate = some .error → es.length = 16 ∨ es.length = 17) ∧
      (t.cstate ≠ some .error → es.length = if s.pwmConfigured then 2 else 1)

/-- R213, R214, R215; log 5: the unit of the period is the model's (DESIGN CHOICE): an ERROR cycle blocks for eight
`Delay`s, one whole cycle period (eight eighths of it); any other command blocks for no stated time. -/
def Obligations.ErrorCycleBlocksOnePeriod : Prop :=
  ∀ (i : Instr) (s : State), ∃ t es, exec i s = .next t ∧ t.trace = s.trace ++ es ∧
    blockedEighths s.cfg es = if i = .cycle ∧ cycleState s = .error then 8 * s.cfg.cyclePeriod else 0

/-! ## Status codes, frames, dependence -/

/-- R180, R184: the codes, which command writes which and when, and what else it then does: with `OVERFLOW`,
`BAD_OPERAND` and `ILLEGAL_CMD`, and for PWMDUTY with `NOT_CONFIGURED`, nothing. -/
def Obligations.StatusCodeOfEveryCommand : Prop :=
  ((statusBits .ok).toNat = 0 ∧ (statusBits .overflow).toNat = 1 ∧ (statusBits .notConfigured).toNat = 2 ∧
    (statusBits .badOperand).toNat = 3 ∧ (statusBits .illegalCmd).toNat = 4) ∧
  (∀ (w : Word) (s : State), ∃ t, runCommand w s = .next t ∧
    (t.status = .illegalCmd ↔ ¬ ∃ i, decode w = .instr i) ∧
    (t.status = .illegalCmd → t = { s with status := .illegalCmd })) ∧
  ∀ (i : Instr) (s : State), ∃ t, exec i s = .next t ∧
    (t.status = .overflow ↔
      (∃ psel bw P, i = .top psel bw ∧ (psel.toNat, P) ∈ [(1, 1), (2, 8), (3, 64), (4, 256), (5, 1024)] ∧
        ¬ TopFits s.freq.toNat s.clk.toNat P (if bw = 0#1 then 8 else 16)) ∨
      (i = .pwmcfg ∧
        ¬ TopFits s.freq.toNat s.clk.toNat (divider s.params.pwmPrescaler) (widthBits s.params.pwmBits)) ∨
      (i = .tickcfg ∧
        ¬ TopFits s.freq.toNat s.clk.toNat (divider s.params.tickPrescaler) (widthBits s.params.tickBits))) ∧
    (t.status = .overflow → t = { s with status := .overflow }) ∧
    (t.status = .notConfigured ↔
      s.pwmConfigured = false ∧ (i = .pwmduty ∨ (i = .cycle ∧ cycleState s ≠ .error))) ∧
    (t.status = .notConfigured → i = .pwmduty → t = { s with status := .notConfigured }) ∧
    (t.status = .notConfigured → i = .cycle → t.pwmcmp = s.pwmcmp ∧ t.rcmp = s.rcmp ∧ t.rach = s.rach) ∧
    (t.status = .badOperand ↔ ∃ psel bw, i = .top psel bw ∧ (psel = 0#3 ∨ psel = 6#3 ∨ psel = 7#3)) ∧
    (t.status = .badOperand → t = { s with status := .badOperand }) ∧
    t.status ≠ .illegalCmd

/-- R86, R217: the frame of every command: nothing but the registers named on the left of R86's table, and the trace,
may change; TOP and CMP leave the trace too, and only a cycle touches the snapshot, the counter and the pins. -/
def Obligations.CommandFrames : Prop :=
  ∀ s : State,
    (∀ psel bw, ∃ t, exec (.top psel bw) s = .next t ∧ t = { s with rtop := t.rtop, status := t.status }) ∧
    (∃ t, exec .cmp s = .next t ∧ t = { s with rcmp := t.rcmp, rach := t.rach, status := t.status }) ∧
    (∃ t, exec .pwmcfg s = .next t ∧
      t = { s with
        pwmConfigured := t.pwmConfigured, pwmtop := t.pwmtop, pwmcmp := t.pwmcmp, status := t.status
        trace := t.trace }) ∧
    (∃ t, exec .pwmduty s = .next t ∧
      t = { s with pwmcmp := t.pwmcmp, rcmp := t.rcmp, rach := t.rach, status := t.status, trace := t.trace }) ∧
    (∃ t, exec .tickcfg s = .next t ∧
      t = { s with
        tickConfigured := t.tickConfigured, tickIen := t.tickIen, ticktop := t.ticktop, status := t.status
        trace := t.trace }) ∧
    ∃ t, exec .cycle s = .next t ∧
      t = { s with
        cstate := t.cstate, errcnt := t.errcnt, fanEn := t.fanEn, errInd := t.errInd, dutyreq := t.dutyreq
        pwmcmp := t.pwmcmp, rcmp := t.rcmp, rach := t.rach, nsens := t.nsens, temp0 := t.temp0, temp1 := t.temp1
        temp2 := t.temp2, temp3 := t.temp3, temp4 := t.temp4, status := t.status, trace := t.trace }

/-- R86: every register a command writes depends on nothing but the registers it reads, the parameters and `cfg`: two
states that agree on those get the same `STATUS`, the same appended events, and the same value in every register of
R86's write column. Where a failing or partial command keeps a register (`STATUS` not `OK`, an ERROR cycle, a cycle on
an unconfigured channel), it comes out the same if it was the same before (`SameAfter`). -/
def Obligations.CommandsDependOnlyOnTheirOperands : Prop :=
  ∀ s₁ s₂ : State, s₁.params = s₂.params → s₁.cfg = s₂.cfg →
    (∀ psel bw, s₁.freq = s₂.freq → s₁.clk = s₂.clk →
      ∃ t₁ t₂, exec (.top psel bw) s₁ = .next t₁ ∧ exec (.top psel bw) s₂ = .next t₂ ∧
        t₁.status = t₂.status ∧ SameAfter State.rtop (t₁.status = .ok) s₁ t₁ s₂ t₂ ∧
        t₁.trace = s₁.trace ∧ t₂.trace = s₂.trace) ∧
    (s₁.topin = s₂.topin → s₁.pct = s₂.pct →
      ∃ t₁ t₂, exec .cmp s₁ = .next t₁ ∧ exec .cmp s₂ = .next t₂ ∧
        t₁.status = t₂.status ∧ t₁.rcmp = t₂.rcmp ∧ t₁.rach = t₂.rach ∧
        t₁.trace = s₁.trace ∧ t₂.trace = s₂.trace) ∧
    (s₁.freq = s₂.freq → s₁.clk = s₂.clk →
      ∃ t₁ t₂ es, exec .pwmcfg s₁ = .next t₁ ∧ exec .pwmcfg s₂ = .next t₂ ∧
        t₁.status = t₂.status ∧ SameAfter State.pwmConfigured (t₁.status = .ok) s₁ t₁ s₂ t₂ ∧
        SameAfter State.pwmtop (t₁.status = .ok) s₁ t₁ s₂ t₂ ∧
        SameAfter State.pwmcmp (t₁.status = .ok) s₁ t₁ s₂ t₂ ∧
        t₁.trace = s₁.trace ++ es ∧ t₂.trace = s₂.trace ++ es) ∧
    (s₁.pct = s₂.pct → s₁.pwmConfigured = s₂.pwmConfigured → s₁.pwmtop = s₂.pwmtop →
      ∃ t₁ t₂ es, exec .pwmduty s₁ = .next t₁ ∧ exec .pwmduty s₂ = .next t₂ ∧
        t₁.status = t₂.status ∧ SameAfter State.pwmcmp (t₁.status = .ok) s₁ t₁ s₂ t₂ ∧
        SameAfter State.rcmp (t₁.status = .ok) s₁ t₁ s₂ t₂ ∧
        SameAfter State.rach (t₁.status = .ok) s₁ t₁ s₂ t₂ ∧
        t₁.trace = s₁.trace ++ es ∧ t₂.trace = s₂.trace ++ es) ∧
    (s₁.freq = s₂.freq → s₁.clk = s₂.clk →
      ∃ t₁ t₂ es, exec .tickcfg s₁ = .next t₁ ∧ exec .tickcfg s₂ = .next t₂ ∧
        t₁.status = t₂.status ∧ SameAfter State.tickConfigured (t₁.status = .ok) s₁ t₁ s₂ t₂ ∧
        SameAfter State.tickIen (t₁.status = .ok) s₁ t₁ s₂ t₂ ∧
        SameAfter State.ticktop (t₁.status = .ok) s₁ t₁ s₂ t₂ ∧
        t₁.trace = s₁.trace ++ es ∧ t₂.trace = s₂.trace ++ es) ∧
    (s₁.nsens = s₂.nsens → usedReadings s₁ = usedReadings s₂ → s₁.errcnt = s₂.errcnt →
      s₁.pwmConfigured = s₂.pwmConfigured → s₁.pwmtop = s₂.pwmtop →
      ∃ t₁ t₂ es, exec .cycle s₁ = .next t₁ ∧ exec .cycle s₂ = .next t₂ ∧
        t₁.status = t₂.status ∧ t₁.cstate = t₂.cstate ∧ t₁.errcnt = t₂.errcnt ∧
        SameAfter State.fanEn (t₁.cstate ≠ some .error ∨ t₁.errcnt = 0#8) s₁ t₁ s₂ t₂ ∧
        SameAfter State.errInd (t₁.cstate = some .error) s₁ t₁ s₂ t₂ ∧
        SameAfter State.dutyreq (t₁.cstate ≠ some .error) s₁ t₁ s₂ t₂ ∧
        SameAfter State.pwmcmp (t₁.cstate ≠ some .error ∧ t₁.status = .ok) s₁ t₁ s₂ t₂ ∧
        SameAfter State.rcmp (t₁.cstate ≠ some .error ∧ t₁.status = .ok) s₁ t₁ s₂ t₂ ∧
        SameAfter State.rach (t₁.cstate ≠ some .error ∧ t₁.status = .ok) s₁ t₁ s₂ t₂ ∧
        t₁.nsens = t₂.nsens ∧ t₁.temp0 = t₂.temp0 ∧ t₁.temp1 = t₂.temp1 ∧ t₁.temp2 = t₂.temp2 ∧
        t₁.temp3 = t₂.temp3 ∧ t₁.temp4 = t₂.temp4 ∧
        t₁.trace = s₁.trace ++ es ∧ t₂.trace = s₂.trace ++ es)

/-- R91: the six pseudo-instructions as bus operations, their arguments already converted words: `CTRL.CYCLE` of one to
five readings writes each of them, the count, issues CYCLE and reads `CSTATE`; with no reading or more than five it
writes the count and issues CYCLE only (log 9, DEDUCED: no read of `CSTATE` follows). -/
def Obligations.PseudoInstructionExpansions : Prop :=
  (∀ f clk : Word, (pwmConfigure f clk).map lineOp =
    [.write 0x01#6 f, .write 0x00#6 clk, .write 0x1F#6 0x00000003#32, .read 0x10#6]) ∧
  (∀ p : Word, (pwmSetDuty p).map lineOp = [.write 0x02#6 p, .write 0x1F#6 0x00000004#32, .read 0x13#6]) ∧
  (∀ f clk : Word, (tickConfigure f clk).map lineOp =
    [.write 0x01#6 f, .write 0x00#6 clk, .write 0x1F#6 0x00000005#32, .read 0x10#6]) ∧
  (∀ (f clk : Word) (P : Prescaler) (b : Width), (mathTop f clk P b).map lineOp =
    [.write 0x01#6 f, .write 0x00#6 clk,
      .write 0x1F#6 (BitVec.ofNat 32 (1 + 16 * (prescCode P).toNat + 128 * (widthCode b).toNat)),
      .read 0x10#6, .read 0x11#6]) ∧
  (∀ top p : Word, (mathCompare top p).map lineOp =
    [.write 0x03#6 top, .write 0x02#6 p, .write 0x1F#6 0x00000002#32, .read 0x12#6, .read 0x13#6]) ∧
  (∀ t0 t1 t2 t3 t4 : Word,
    (ctrlCycle [t0]).map lineOp =
      [.write 0x08#6 t0, .write 0x04#6 1#32, .write 0x1F#6 0x00000006#32, .read 0x14#6] ∧
    (ctrlCycle [t0, t1]).map lineOp =
      [.write 0x08#6 t0, .write 0x09#6 t1, .write 0x04#6 2#32, .write 0x1F#6 0x00000006#32, .read 0x14#6] ∧
    (ctrlCycle [t0, t1, t2]).map lineOp =
      [.write 0x08#6 t0, .write 0x09#6 t1, .write 0x0A#6 t2, .write 0x04#6 3#32, .write 0x1F#6 0x00000006#32,
        .read 0x14#6] ∧
    (ctrlCycle [t0, t1, t2, t3]).map lineOp =
      [.write 0x08#6 t0, .write 0x09#6 t1, .write 0x0A#6 t2, .write 0x0B#6 t3, .write 0x04#6 4#32,
        .write 0x1F#6 0x00000006#32, .read 0x14#6] ∧
    (ctrlCycle [t0, t1, t2, t3, t4]).map lineOp =
      [.write 0x08#6 t0, .write 0x09#6 t1, .write 0x0A#6 t2, .write 0x0B#6 t3, .write 0x0C#6 t4, .write 0x04#6 5#32,
        .write 0x1F#6 0x00000006#32, .read 0x14#6]) ∧
  ∀ ts : List Word, ts.length = 0 ∨ 5 < ts.length →
    (ctrlCycle ts).map lineOp =
      [.write 0x04#6 (BitVec.ofNat 32 ts.length), .write 0x1F#6 0x00000006#32]

/-! ## Invariants -/

/-- R44, R52, R200 (R44's (c) to (f) are marked derived by the spec): both invariants hold after reset, for every
configuration and all parameters. -/
def Obligations.InvariantsHoldAfterReset : Prop :=
  ∀ (p : Params) (c : Cfg), RegisterInvariant (State.resetWith p c) ∧ TraceMirror (State.resetWith p c)

/-- R44, of which the spec marks (c) to (f) as derived: every step keeps the invariant, from every state that has it;
so it holds "after reset and after every bus operation", whatever the host presents, for every configuration and all
parameters. -/
def Obligations.RegisterInvariantKeptByEveryStep : Prop :=
  (∀ s t : State, RegisterInvariant s → step s = .next t → RegisterInvariant t) ∧
    ∀ (p : Params) (c : Cfg) (acts : List HostAct) (k : Nat) (t : State),
      run k { State.resetWith p c with script := acts } = .next t → RegisterInvariant t

/-- spec/10_state.md section 4 (R35 to R40): every step keeps the channel and pin registers equal to what the output
trace has told the timers and the outputs, and the error indicator low. -/
def Obligations.TraceMirrorKeptByEveryStep : Prop :=
  ∀ s t : State, TraceMirror s → step s = .next t → TraceMirror t
end

