-- ==== Sys2Proof/Laws/Arith.lean ====
section
/-! SUPPORT. What the arithmetic operations of Machine/Ops.lean can answer: rounding, the clamp, the top count and the
quantizer. -/

namespace Sys2Proof.Machine

/-- `rnd n d` is the integer nearest to `n / d`, a tie going up: everything there is to know of it (R11). -/
theorem rnd_bounds (n d : Int) (hd : 0 < d) :
    2 * d * rnd n d ≤ 2 * n + d ∧ 2 * n + d < 2 * d * (rnd n d + 1) := by
  have h := Int.mul_ediv_self_le (x := 2 * n + d) (k := 2 * d) (by omega)
  have h' := Int.lt_mul_ediv_self_add (x := 2 * n + d) (k := 2 * d) (by omega)
  exact ⟨by simpa [rnd] using h, by simp only [rnd]; rw [Int.mul_add]; omega⟩

/-- The value with those bounds is unique. -/
theorem rnd_eq_of_bounds {n d r : Int} (hd : 0 < d) (h : 2 * d * r ≤ 2 * n + d) (h' : 2 * n + d < 2 * d * (r + 1)) :
    rnd n d = r := by
  have ⟨hl, hu⟩ := rnd_bounds n d hd
  have h1 : rnd n d < r + 1 := lt_of_mul_lt_mul_left (by omega : 2 * d * rnd n d < 2 * d * (r + 1)) (by omega)
  have h2 : r < rnd n d + 1 := lt_of_mul_lt_mul_left (by omega : 2 * d * r < 2 * d * (rnd n d + 1)) (by omega)
  omega

/-- A quotient that is exact is not changed by rounding. -/
theorem rnd_mul_self (k d : Int) (hd : 0 < d) : rnd (k * d) d = k :=
  rnd_eq_of_bounds hd (by nlinarith) (by nlinarith)

/-- Rounding keeps the order. -/
theorem rnd_mono {n m d : Int} (hd : 0 < d) (h : n ≤ m) : rnd n d ≤ rnd m d :=
  Int.ediv_le_ediv (by omega) (by omega)

/-- The clamp lands in its range (R12). -/
theorem clamp_mem (v lo hi : Int) (h : lo ≤ hi) : lo ≤ clamp v lo hi ∧ clamp v lo hi ≤ hi := by
  unfold clamp; split <;> [omega; split <;> omega]

/-- A value already in range is not changed by the clamp. -/
theorem clamp_of_mem {v lo hi : Int} (h : lo ≤ v) (h' : v ≤ hi) : clamp v lo hi = v := by
  unfold clamp; split <;> [omega; split <;> omega]

/-- The range check accepts exactly the counts that fit (R103). -/
theorem checkTop_eq_ok_iff (top : Int) (b n : Nat) :
    checkTop top b = .ok n ↔ 0 ≤ top ∧ top ≤ 2 ^ b - 1 ∧ n = top.toNat := by
  unfold checkTop
  split
  · simp only [reduceCtorEq, false_iff]; omega
  · simp only [TopResult.ok.injEq]; omega

/-- When `computeTop` succeeds, and with what (R101, R103). -/
theorem computeTop_eq_ok_iff (F C P b n : Nat) :
    computeTop F C P b = .ok n ↔
      F ≠ 0 ∧ 0 ≤ rnd (256 * C) (P * F) - 1 ∧ rnd (256 * C) (P * F) - 1 ≤ 2 ^ b - 1 ∧
        n = (rnd (256 * C) (P * F) - 1).toNat := by
  unfold computeTop
  split
  · simp_all
  · simp_all [checkTop_eq_ok_iff]

/-- `computeTop` answers one or the other. -/
theorem computeTop_cases (F C P b : Nat) : computeTop F C P b = .overflow ∨ ∃ n, computeTop F C P b = .ok n := by
  cases computeTop F C P b <;> simp

/-- The rounded request is between no count and the whole period (R106). -/
theorem rawCount_mem (T : Nat) (p : Int) : 0 ≤ rawCount T p ∧ rawCount T p ≤ T + 1 := by
  have ⟨hl, hu⟩ := clamp_mem p 0 HUNDRED (by decide)
  constructor
  · have h : rnd (0 * HUNDRED) HUNDRED ≤ rawCount T p := rnd_mono (by decide) (by positivity)
    rwa [rnd_mul_self _ _ (by decide)] at h
  · have h : rawCount T p ≤ rnd ((T + 1) * HUNDRED) HUNDRED :=
      rnd_mono (by decide) (mul_le_mul_of_nonneg_left hu (by positivity))
    rwa [rnd_mul_self _ _ (by decide)] at h

/-- The two arms of the quantizer (R106, R107). -/
theorem compareValue_cases (T : Nat) (p : Int) :
    (rawCount T p = 0 ∧ compareValue T p = T) ∨
      (1 ≤ rawCount T p ∧ (compareValue T p : Int) + 1 = rawCount T p) := by
  have ⟨hl, _⟩ := rawCount_mem T p
  unfold compareValue
  split
  · simp_all
  · exact .inr ⟨by omega, by omega⟩

end Sys2Proof.Machine
end

