-- ==== Sys2Proof/Laws/State.lean ====
section
/-! SUPPORT. The fields of State after each named update: one lemma per field per update, so that no proof unfolds a
record update. Definitions: Machine/Ops.lean, Machine/Bus.lean. -/

namespace Sys2Proof.Machine

variable (s : State)

/-! ### raise -/

@[simp] theorem raise_params (c : StatusCode) : (raise c s).params = s.params := rfl
@[simp] theorem raise_cfg (c : StatusCode) : (raise c s).cfg = s.cfg := rfl
@[simp] theorem raise_clk (c : StatusCode) : (raise c s).clk = s.clk := rfl
@[simp] theorem raise_freq (c : StatusCode) : (raise c s).freq = s.freq := rfl
@[simp] theorem raise_pct (c : StatusCode) : (raise c s).pct = s.pct := rfl
@[simp] theorem raise_topin (c : StatusCode) : (raise c s).topin = s.topin := rfl
@[simp] theorem raise_nsens (c : StatusCode) : (raise c s).nsens = s.nsens := rfl
@[simp] theorem raise_temp0 (c : StatusCode) : (raise c s).temp0 = s.temp0 := rfl
@[simp] theorem raise_temp1 (c : StatusCode) : (raise c s).temp1 = s.temp1 := rfl
@[simp] theorem raise_temp2 (c : StatusCode) : (raise c s).temp2 = s.temp2 := rfl
@[simp] theorem raise_temp3 (c : StatusCode) : (raise c s).temp3 = s.temp3 := rfl
@[simp] theorem raise_temp4 (c : StatusCode) : (raise c s).temp4 = s.temp4 := rfl
@[simp] theorem raise_status (c : StatusCode) : (raise c s).status = c := rfl
@[simp] theorem raise_rtop (c : StatusCode) : (raise c s).rtop = s.rtop := rfl
@[simp] theorem raise_rcmp (c : StatusCode) : (raise c s).rcmp = s.rcmp := rfl
@[simp] theorem raise_rach (c : StatusCode) : (raise c s).rach = s.rach := rfl
@[simp] theorem raise_cstate (c : StatusCode) : (raise c s).cstate = s.cstate := rfl
@[simp] theorem raise_errcnt (c : StatusCode) : (raise c s).errcnt = s.errcnt := rfl
@[simp] theorem raise_dutyreq (c : StatusCode) : (raise c s).dutyreq = s.dutyreq := rfl
@[simp] theorem raise_pwmConfigured (c : StatusCode) : (raise c s).pwmConfigured = s.pwmConfigured := rfl
@[simp] theorem raise_pwmtop (c : StatusCode) : (raise c s).pwmtop = s.pwmtop := rfl
@[simp] theorem raise_pwmcmp (c : StatusCode) : (raise c s).pwmcmp = s.pwmcmp := rfl
@[simp] theorem raise_tickConfigured (c : StatusCode) : (raise c s).tickConfigured = s.tickConfigured := rfl
@[simp] theorem raise_tickIen (c : StatusCode) : (raise c s).tickIen = s.tickIen := rfl
@[simp] theorem raise_ticktop (c : StatusCode) : (raise c s).ticktop = s.ticktop := rfl
@[simp] theorem raise_fanEn (c : StatusCode) : (raise c s).fanEn = s.fanEn := rfl
@[simp] theorem raise_errInd (c : StatusCode) : (raise c s).errInd = s.errInd := rfl
@[simp] theorem raise_trace (c : StatusCode) : (raise c s).trace = s.trace := rfl
@[simp] theorem raise_script (c : StatusCode) : (raise c s).script = s.script := rfl
@[simp] theorem raise_reads (c : StatusCode) : (raise c s).reads = s.reads := rfl

/-! ### emit -/

@[simp] theorem emit_params (e : OutEvent) : (emit e s).params = s.params := rfl
@[simp] theorem emit_cfg (e : OutEvent) : (emit e s).cfg = s.cfg := rfl
@[simp] theorem emit_clk (e : OutEvent) : (emit e s).clk = s.clk := rfl
@[simp] theorem emit_freq (e : OutEvent) : (emit e s).freq = s.freq := rfl
@[simp] theorem emit_pct (e : OutEvent) : (emit e s).pct = s.pct := rfl
@[simp] theorem emit_topin (e : OutEvent) : (emit e s).topin = s.topin := rfl
@[simp] theorem emit_nsens (e : OutEvent) : (emit e s).nsens = s.nsens := rfl
@[simp] theorem emit_temp0 (e : OutEvent) : (emit e s).temp0 = s.temp0 := rfl
@[simp] theorem emit_temp1 (e : OutEvent) : (emit e s).temp1 = s.temp1 := rfl
@[simp] theorem emit_temp2 (e : OutEvent) : (emit e s).temp2 = s.temp2 := rfl
@[simp] theorem emit_temp3 (e : OutEvent) : (emit e s).temp3 = s.temp3 := rfl
@[simp] theorem emit_temp4 (e : OutEvent) : (emit e s).temp4 = s.temp4 := rfl
@[simp] theorem emit_status (e : OutEvent) : (emit e s).status = s.status := rfl
@[simp] theorem emit_rtop (e : OutEvent) : (emit e s).rtop = s.rtop := rfl
@[simp] theorem emit_rcmp (e : OutEvent) : (emit e s).rcmp = s.rcmp := rfl
@[simp] theorem emit_rach (e : OutEvent) : (emit e s).rach = s.rach := rfl
@[simp] theorem emit_cstate (e : OutEvent) : (emit e s).cstate = s.cstate := rfl
@[simp] theorem emit_errcnt (e : OutEvent) : (emit e s).errcnt = s.errcnt := rfl
@[simp] theorem emit_dutyreq (e : OutEvent) : (emit e s).dutyreq = s.dutyreq := rfl
@[simp] theorem emit_pwmConfigured (e : OutEvent) : (emit e s).pwmConfigured = s.pwmConfigured := rfl
@[simp] theorem emit_pwmtop (e : OutEvent) : (emit e s).pwmtop = s.pwmtop := rfl
@[simp] theorem emit_pwmcmp (e : OutEvent) : (emit e s).pwmcmp = s.pwmcmp := rfl
@[simp] theorem emit_tickConfigured (e : OutEvent) : (emit e s).tickConfigured = s.tickConfigured := rfl
@[simp] theorem emit_tickIen (e : OutEvent) : (emit e s).tickIen = s.tickIen := rfl
@[simp] theorem emit_ticktop (e : OutEvent) : (emit e s).ticktop = s.ticktop := rfl
@[simp] theorem emit_fanEn (e : OutEvent) : (emit e s).fanEn = s.fanEn := rfl
@[simp] theorem emit_errInd (e : OutEvent) : (emit e s).errInd = s.errInd := rfl
@[simp] theorem emit_trace (e : OutEvent) : (emit e s).trace = s.trace ++ [e] := rfl
@[simp] theorem emit_script (e : OutEvent) : (emit e s).script = s.script := rfl
@[simp] theorem emit_reads (e : OutEvent) : (emit e s).reads = s.reads := rfl

/-! ### driveFan -/

@[simp] theorem driveFan_params (b : Bool) : (driveFan b s).params = s.params := rfl
@[simp] theorem driveFan_cfg (b : Bool) : (driveFan b s).cfg = s.cfg := rfl
@[simp] theorem driveFan_clk (b : Bool) : (driveFan b s).clk = s.clk := rfl
@[simp] theorem driveFan_freq (b : Bool) : (driveFan b s).freq = s.freq := rfl
@[simp] theorem driveFan_pct (b : Bool) : (driveFan b s).pct = s.pct := rfl
@[simp] theorem driveFan_topin (b : Bool) : (driveFan b s).topin = s.topin := rfl
@[simp] theorem driveFan_nsens (b : Bool) : (driveFan b s).nsens = s.nsens := rfl
@[simp] theorem driveFan_temp0 (b : Bool) : (driveFan b s).temp0 = s.temp0 := rfl
@[simp] theorem driveFan_temp1 (b : Bool) : (driveFan b s).temp1 = s.temp1 := rfl
@[simp] theorem driveFan_temp2 (b : Bool) : (driveFan b s).temp2 = s.temp2 := rfl
@[simp] theorem driveFan_temp3 (b : Bool) : (driveFan b s).temp3 = s.temp3 := rfl
@[simp] theorem driveFan_temp4 (b : Bool) : (driveFan b s).temp4 = s.temp4 := rfl
@[simp] theorem driveFan_status (b : Bool) : (driveFan b s).status = s.status := rfl
@[simp] theorem driveFan_rtop (b : Bool) : (driveFan b s).rtop = s.rtop := rfl
@[simp] theorem driveFan_rcmp (b : Bool) : (driveFan b s).rcmp = s.rcmp := rfl
@[simp] theorem driveFan_rach (b : Bool) : (driveFan b s).rach = s.rach := rfl
@[simp] theorem driveFan_cstate (b : Bool) : (driveFan b s).cstate = s.cstate := rfl
@[simp] theorem driveFan_errcnt (b : Bool) : (driveFan b s).errcnt = s.errcnt := rfl
@[simp] theorem driveFan_dutyreq (b : Bool) : (driveFan b s).dutyreq = s.dutyreq := rfl
@[simp] theorem driveFan_pwmConfigured (b : Bool) : (driveFan b s).pwmConfigured = s.pwmConfigured := rfl
@[simp] theorem driveFan_pwmtop (b : Bool) : (driveFan b s).pwmtop = s.pwmtop := rfl
@[simp] theorem driveFan_pwmcmp (b : Bool) : (driveFan b s).pwmcmp = s.pwmcmp := rfl
@[simp] theorem driveFan_tickConfigured (b : Bool) : (driveFan b s).tickConfigured = s.tickConfigured := rfl
@[simp] theorem driveFan_tickIen (b : Bool) : (driveFan b s).tickIen = s.tickIen := rfl
@[simp] theorem driveFan_ticktop (b : Bool) : (driveFan b s).ticktop = s.ticktop := rfl
@[simp] theorem driveFan_fanEn (b : Bool) : (driveFan b s).fanEn = b := rfl
@[simp] theorem driveFan_errInd (b : Bool) : (driveFan b s).errInd = s.errInd := rfl
@[simp] theorem driveFan_trace (b : Bool) : (driveFan b s).trace = s.trace ++ [.fanEn b] := rfl
@[simp] theorem driveFan_script (b : Bool) : (driveFan b s).script = s.script := rfl
@[simp] theorem driveFan_reads (b : Bool) : (driveFan b s).reads = s.reads := rfl

/-! ### driveErr -/

@[simp] theorem driveErr_params (b : Bool) : (driveErr b s).params = s.params := rfl
@[simp] theorem driveErr_cfg (b : Bool) : (driveErr b s).cfg = s.cfg := rfl
@[simp] theorem driveErr_clk (b : Bool) : (driveErr b s).clk = s.clk := rfl
@[simp] theorem driveErr_freq (b : Bool) : (driveErr b s).freq = s.freq := rfl
@[simp] theorem driveErr_pct (b : Bool) : (driveErr b s).pct = s.pct := rfl
@[simp] theorem driveErr_topin (b : Bool) : (driveErr b s).topin = s.topin := rfl
@[simp] theorem driveErr_nsens (b : Bool) : (driveErr b s).nsens = s.nsens := rfl
@[simp] theorem driveErr_temp0 (b : Bool) : (driveErr b s).temp0 = s.temp0 := rfl
@[simp] theorem driveErr_temp1 (b : Bool) : (driveErr b s).temp1 = s.temp1 := rfl
@[simp] theorem driveErr_temp2 (b : Bool) : (driveErr b s).temp2 = s.temp2 := rfl
@[simp] theorem driveErr_temp3 (b : Bool) : (driveErr b s).temp3 = s.temp3 := rfl
@[simp] theorem driveErr_temp4 (b : Bool) : (driveErr b s).temp4 = s.temp4 := rfl
@[simp] theorem driveErr_status (b : Bool) : (driveErr b s).status = s.status := rfl
@[simp] theorem driveErr_rtop (b : Bool) : (driveErr b s).rtop = s.rtop := rfl
@[simp] theorem driveErr_rcmp (b : Bool) : (driveErr b s).rcmp = s.rcmp := rfl
@[simp] theorem driveErr_rach (b : Bool) : (driveErr b s).rach = s.rach := rfl
@[simp] theorem driveErr_cstate (b : Bool) : (driveErr b s).cstate = s.cstate := rfl
@[simp] theorem driveErr_errcnt (b : Bool) : (driveErr b s).errcnt = s.errcnt := rfl
@[simp] theorem driveErr_dutyreq (b : Bool) : (driveErr b s).dutyreq = s.dutyreq := rfl
@[simp] theorem driveErr_pwmConfigured (b : Bool) : (driveErr b s).pwmConfigured = s.pwmConfigured := rfl
@[simp] theorem driveErr_pwmtop (b : Bool) : (driveErr b s).pwmtop = s.pwmtop := rfl
@[simp] theorem driveErr_pwmcmp (b : Bool) : (driveErr b s).pwmcmp = s.pwmcmp := rfl
@[simp] theorem driveErr_tickConfigured (b : Bool) : (driveErr b s).tickConfigured = s.tickConfigured := rfl
@[simp] theorem driveErr_tickIen (b : Bool) : (driveErr b s).tickIen = s.tickIen := rfl
@[simp] theorem driveErr_ticktop (b : Bool) : (driveErr b s).ticktop = s.ticktop := rfl
@[simp] theorem driveErr_fanEn (b : Bool) : (driveErr b s).fanEn = s.fanEn := rfl
@[simp] theorem driveErr_errInd (b : Bool) : (driveErr b s).errInd = b := rfl
@[simp] theorem driveErr_trace (b : Bool) : (driveErr b s).trace = s.trace ++ [.errInd b] := rfl
@[simp] theorem driveErr_script (b : Bool) : (driveErr b s).script = s.script := rfl
@[simp] theorem driveErr_reads (b : Bool) : (driveErr b s).reads = s.reads := rfl

/-! ### drivePwmTop -/

@[simp] theorem drivePwmTop_params (v : Half) : (drivePwmTop v s).params = s.params := rfl
@[simp] theorem drivePwmTop_cfg (v : Half) : (drivePwmTop v s).cfg = s.cfg := rfl
@[simp] theorem drivePwmTop_clk (v : Half) : (drivePwmTop v s).clk = s.clk := rfl
@[simp] theorem drivePwmTop_freq (v : Half) : (drivePwmTop v s).freq = s.freq := rfl
@[simp] theorem drivePwmTop_pct (v : Half) : (drivePwmTop v s).pct = s.pct := rfl
@[simp] theorem drivePwmTop_topin (v : Half) : (drivePwmTop v s).topin = s.topin := rfl
@[simp] theorem drivePwmTop_nsens (v : Half) : (drivePwmTop v s).nsens = s.nsens := rfl
@[simp] theorem drivePwmTop_temp0 (v : Half) : (drivePwmTop v s).temp0 = s.temp0 := rfl
@[simp] theorem drivePwmTop_temp1 (v : Half) : (drivePwmTop v s).temp1 = s.temp1 := rfl
@[simp] theorem drivePwmTop_temp2 (v : Half) : (drivePwmTop v s).temp2 = s.temp2 := rfl
@[simp] theorem drivePwmTop_temp3 (v : Half) : (drivePwmTop v s).temp3 = s.temp3 := rfl
@[simp] theorem drivePwmTop_temp4 (v : Half) : (drivePwmTop v s).temp4 = s.temp4 := rfl
@[simp] theorem drivePwmTop_status (v : Half) : (drivePwmTop v s).status = s.status := rfl
@[simp] theorem drivePwmTop_rtop (v : Half) : (drivePwmTop v s).rtop = s.rtop := rfl
@[simp] theorem drivePwmTop_rcmp (v : Half) : (drivePwmTop v s).rcmp = s.rcmp := rfl
@[simp] theorem drivePwmTop_rach (v : Half) : (drivePwmTop v s).rach = s.rach := rfl
@[simp] theorem drivePwmTop_cstate (v : Half) : (drivePwmTop v s).cstate = s.cstate := rfl
@[simp] theorem drivePwmTop_errcnt (v : Half) : (drivePwmTop v s).errcnt = s.errcnt := rfl
@[simp] theorem drivePwmTop_dutyreq (v : Half) : (drivePwmTop v s).dutyreq = s.dutyreq := rfl
@[simp] theorem drivePwmTop_pwmConfigured (v : Half) : (drivePwmTop v s).pwmConfigured = s.pwmConfigured := rfl
@[simp] theorem drivePwmTop_pwmtop (v : Half) : (drivePwmTop v s).pwmtop = v := rfl
@[simp] theorem drivePwmTop_pwmcmp (v : Half) : (drivePwmTop v s).pwmcmp = s.pwmcmp := rfl
@[simp] theorem drivePwmTop_tickConfigured (v : Half) : (drivePwmTop v s).tickConfigured = s.tickConfigured := rfl
@[simp] theorem drivePwmTop_tickIen (v : Half) : (drivePwmTop v s).tickIen = s.tickIen := rfl
@[simp] theorem drivePwmTop_ticktop (v : Half) : (drivePwmTop v s).ticktop = s.ticktop := rfl
@[simp] theorem drivePwmTop_fanEn (v : Half) : (drivePwmTop v s).fanEn = s.fanEn := rfl
@[simp] theorem drivePwmTop_errInd (v : Half) : (drivePwmTop v s).errInd = s.errInd := rfl
@[simp] theorem drivePwmTop_trace (v : Half) : (drivePwmTop v s).trace = s.trace ++ [.pwmTop v] := rfl
@[simp] theorem drivePwmTop_script (v : Half) : (drivePwmTop v s).script = s.script := rfl
@[simp] theorem drivePwmTop_reads (v : Half) : (drivePwmTop v s).reads = s.reads := rfl

/-! ### drivePwmCmp -/

@[simp] theorem drivePwmCmp_params (v : Half) : (drivePwmCmp v s).params = s.params := rfl
@[simp] theorem drivePwmCmp_cfg (v : Half) : (drivePwmCmp v s).cfg = s.cfg := rfl
@[simp] theorem drivePwmCmp_clk (v : Half) : (drivePwmCmp v s).clk = s.clk := rfl
@[simp] theorem drivePwmCmp_freq (v : Half) : (drivePwmCmp v s).freq = s.freq := rfl
@[simp] theorem drivePwmCmp_pct (v : Half) : (drivePwmCmp v s).pct = s.pct := rfl
@[simp] theorem drivePwmCmp_topin (v : Half) : (drivePwmCmp v s).topin = s.topin := rfl
@[simp] theorem drivePwmCmp_nsens (v : Half) : (drivePwmCmp v s).nsens = s.nsens := rfl
@[simp] theorem drivePwmCmp_temp0 (v : Half) : (drivePwmCmp v s).temp0 = s.temp0 := rfl
@[simp] theorem drivePwmCmp_temp1 (v : Half) : (drivePwmCmp v s).temp1 = s.temp1 := rfl
@[simp] theorem drivePwmCmp_temp2 (v : Half) : (drivePwmCmp v s).temp2 = s.temp2 := rfl
@[simp] theorem drivePwmCmp_temp3 (v : Half) : (drivePwmCmp v s).temp3 = s.temp3 := rfl
@[simp] theorem drivePwmCmp_temp4 (v : Half) : (drivePwmCmp v s).temp4 = s.temp4 := rfl
@[simp] theorem drivePwmCmp_status (v : Half) : (drivePwmCmp v s).status = s.status := rfl
@[simp] theorem drivePwmCmp_rtop (v : Half) : (drivePwmCmp v s).rtop = s.rtop := rfl
@[simp] theorem drivePwmCmp_rcmp (v : Half) : (drivePwmCmp v s).rcmp = s.rcmp := rfl
@[simp] theorem drivePwmCmp_rach (v : Half) : (drivePwmCmp v s).rach = s.rach := rfl
@[simp] theorem drivePwmCmp_cstate (v : Half) : (drivePwmCmp v s).cstate = s.cstate := rfl
@[simp] theorem drivePwmCmp_errcnt (v : Half) : (drivePwmCmp v s).errcnt = s.errcnt := rfl
@[simp] theorem drivePwmCmp_dutyreq (v : Half) : (drivePwmCmp v s).dutyreq = s.dutyreq := rfl
@[simp] theorem drivePwmCmp_pwmConfigured (v : Half) : (drivePwmCmp v s).pwmConfigured = s.pwmConfigured := rfl
@[simp] theorem drivePwmCmp_pwmtop (v : Half) : (drivePwmCmp v s).pwmtop = s.pwmtop := rfl
@[simp] theorem drivePwmCmp_pwmcmp (v : Half) : (drivePwmCmp v s).pwmcmp = v := rfl
@[simp] theorem drivePwmCmp_tickConfigured (v : Half) : (drivePwmCmp v s).tickConfigured = s.tickConfigured := rfl
@[simp] theorem drivePwmCmp_tickIen (v : Half) : (drivePwmCmp v s).tickIen = s.tickIen := rfl
@[simp] theorem drivePwmCmp_ticktop (v : Half) : (drivePwmCmp v s).ticktop = s.ticktop := rfl
@[simp] theorem drivePwmCmp_fanEn (v : Half) : (drivePwmCmp v s).fanEn = s.fanEn := rfl
@[simp] theorem drivePwmCmp_errInd (v : Half) : (drivePwmCmp v s).errInd = s.errInd := rfl
@[simp] theorem drivePwmCmp_trace (v : Half) : (drivePwmCmp v s).trace = s.trace ++ [.pwmCmp v] := rfl
@[simp] theorem drivePwmCmp_script (v : Half) : (drivePwmCmp v s).script = s.script := rfl
@[simp] theorem drivePwmCmp_reads (v : Half) : (drivePwmCmp v s).reads = s.reads := rfl

/-! ### driveTickTop -/

@[simp] theorem driveTickTop_params (v : Half) : (driveTickTop v s).params = s.params := rfl
@[simp] theorem driveTickTop_cfg (v : Half) : (driveTickTop v s).cfg = s.cfg := rfl
@[simp] theorem driveTickTop_clk (v : Half) : (driveTickTop v s).clk = s.clk := rfl
@[simp] theorem driveTickTop_freq (v : Half) : (driveTickTop v s).freq = s.freq := rfl
@[simp] theorem driveTickTop_pct (v : Half) : (driveTickTop v s).pct = s.pct := rfl
@[simp] theorem driveTickTop_topin (v : Half) : (driveTickTop v s).topin = s.topin := rfl
@[simp] theorem driveTickTop_nsens (v : Half) : (driveTickTop v s).nsens = s.nsens := rfl
@[simp] theorem driveTickTop_temp0 (v : Half) : (driveTickTop v s).temp0 = s.temp0 := rfl
@[simp] theorem driveTickTop_temp1 (v : Half) : (driveTickTop v s).temp1 = s.temp1 := rfl
@[simp] theorem driveTickTop_temp2 (v : Half) : (driveTickTop v s).temp2 = s.temp2 := rfl
@[simp] theorem driveTickTop_temp3 (v : Half) : (driveTickTop v s).temp3 = s.temp3 := rfl
@[simp] theorem driveTickTop_temp4 (v : Half) : (driveTickTop v s).temp4 = s.temp4 := rfl
@[simp] theorem driveTickTop_status (v : Half) : (driveTickTop v s).status = s.status := rfl
@[simp] theorem driveTickTop_rtop (v : Half) : (driveTickTop v s).rtop = s.rtop := rfl
@[simp] theorem driveTickTop_rcmp (v : Half) : (driveTickTop v s).rcmp = s.rcmp := rfl
@[simp] theorem driveTickTop_rach (v : Half) : (driveTickTop v s).rach = s.rach := rfl
@[simp] theorem driveTickTop_cstate (v : Half) : (driveTickTop v s).cstate = s.cstate := rfl
@[simp] theorem driveTickTop_errcnt (v : Half) : (driveTickTop v s).errcnt = s.errcnt := rfl
@[simp] theorem driveTickTop_dutyreq (v : Half) : (driveTickTop v s).dutyreq = s.dutyreq := rfl
@[simp] theorem driveTickTop_pwmConfigured (v : Half) : (driveTickTop v s).pwmConfigured = s.pwmConfigured := rfl
@[simp] theorem driveTickTop_pwmtop (v : Half) : (driveTickTop v s).pwmtop = s.pwmtop := rfl
@[simp] theorem driveTickTop_pwmcmp (v : Half) : (driveTickTop v s).pwmcmp = s.pwmcmp := rfl
@[simp] theorem driveTickTop_tickConfigured (v : Half) : (driveTickTop v s).tickConfigured = s.tickConfigured := rfl
@[simp] theorem driveTickTop_tickIen (v : Half) : (driveTickTop v s).tickIen = s.tickIen := rfl
@[simp] theorem driveTickTop_ticktop (v : Half) : (driveTickTop v s).ticktop = v := rfl
@[simp] theorem driveTickTop_fanEn (v : Half) : (driveTickTop v s).fanEn = s.fanEn := rfl
@[simp] theorem driveTickTop_errInd (v : Half) : (driveTickTop v s).errInd = s.errInd := rfl
@[simp] theorem driveTickTop_trace (v : Half) : (driveTickTop v s).trace = s.trace ++ [.tickTop v] := rfl
@[simp] theorem driveTickTop_script (v : Half) : (driveTickTop v s).script = s.script := rfl
@[simp] theorem driveTickTop_reads (v : Half) : (driveTickTop v s).reads = s.reads := rfl

/-! ### armTick -/

@[simp] theorem armTick_params : (armTick s).params = s.params := rfl
@[simp] theorem armTick_cfg : (armTick s).cfg = s.cfg := rfl
@[simp] theorem armTick_clk : (armTick s).clk = s.clk := rfl
@[simp] theorem armTick_freq : (armTick s).freq = s.freq := rfl
@[simp] theorem armTick_pct : (armTick s).pct = s.pct := rfl
@[simp] theorem armTick_topin : (armTick s).topin = s.topin := rfl
@[simp] theorem armTick_nsens : (armTick s).nsens = s.nsens := rfl
@[simp] theorem armTick_temp0 : (armTick s).temp0 = s.temp0 := rfl
@[simp] theorem armTick_temp1 : (armTick s).temp1 = s.temp1 := rfl
@[simp] theorem armTick_temp2 : (armTick s).temp2 = s.temp2 := rfl
@[simp] theorem armTick_temp3 : (armTick s).temp3 = s.temp3 := rfl
@[simp] theorem armTick_temp4 : (armTick s).temp4 = s.temp4 := rfl
@[simp] theorem armTick_status : (armTick s).status = s.status := rfl
@[simp] theorem armTick_rtop : (armTick s).rtop = s.rtop := rfl
@[simp] theorem armTick_rcmp : (armTick s).rcmp = s.rcmp := rfl
@[simp] theorem armTick_rach : (armTick s).rach = s.rach := rfl
@[simp] theorem armTick_cstate : (armTick s).cstate = s.cstate := rfl
@[simp] theorem armTick_errcnt : (armTick s).errcnt = s.errcnt := rfl
@[simp] theorem armTick_dutyreq : (armTick s).dutyreq = s.dutyreq := rfl
@[simp] theorem armTick_pwmConfigured : (armTick s).pwmConfigured = s.pwmConfigured := rfl
@[simp] theorem armTick_pwmtop : (armTick s).pwmtop = s.pwmtop := rfl
@[simp] theorem armTick_pwmcmp : (armTick s).pwmcmp = s.pwmcmp := rfl
@[simp] theorem armTick_tickConfigured : (armTick s).tickConfigured = s.tickConfigured := rfl
@[simp] theorem armTick_tickIen : (armTick s).tickIen = true := rfl
@[simp] theorem armTick_ticktop : (armTick s).ticktop = s.ticktop := rfl
@[simp] theorem armTick_fanEn : (armTick s).fanEn = s.fanEn := rfl
@[simp] theorem armTick_errInd : (armTick s).errInd = s.errInd := rfl
@[simp] theorem armTick_trace : (armTick s).trace = s.trace ++ [.tickIen] := rfl
@[simp] theorem armTick_script : (armTick s).script = s.script := rfl
@[simp] theorem armTick_reads : (armTick s).reads = s.reads := rfl

/-! ### setPwmConfigured -/

@[simp] theorem setPwmConfigured_params : (setPwmConfigured s).params = s.params := rfl
@[simp] theorem setPwmConfigured_cfg : (setPwmConfigured s).cfg = s.cfg := rfl
@[simp] theorem setPwmConfigured_clk : (setPwmConfigured s).clk = s.clk := rfl
@[simp] theorem setPwmConfigured_freq : (setPwmConfigured s).freq = s.freq := rfl
@[simp] theorem setPwmConfigured_pct : (setPwmConfigured s).pct = s.pct := rfl
@[simp] theorem setPwmConfigured_topin : (setPwmConfigured s).topin = s.topin := rfl
@[simp] theorem setPwmConfigured_nsens : (setPwmConfigured s).nsens = s.nsens := rfl
@[simp] theorem setPwmConfigured_temp0 : (setPwmConfigured s).temp0 = s.temp0 := rfl
@[simp] theorem setPwmConfigured_temp1 : (setPwmConfigured s).temp1 = s.temp1 := rfl
@[simp] theorem setPwmConfigured_temp2 : (setPwmConfigured s).temp2 = s.temp2 := rfl
@[simp] theorem setPwmConfigured_temp3 : (setPwmConfigured s).temp3 = s.temp3 := rfl
@[simp] theorem setPwmConfigured_temp4 : (setPwmConfigured s).temp4 = s.temp4 := rfl
@[simp] theorem setPwmConfigured_status : (setPwmConfigured s).status = s.status := rfl
@[simp] theorem setPwmConfigured_rtop : (setPwmConfigured s).rtop = s.rtop := rfl
@[simp] theorem setPwmConfigured_rcmp : (setPwmConfigured s).rcmp = s.rcmp := rfl
@[simp] theorem setPwmConfigured_rach : (setPwmConfigured s).rach = s.rach := rfl
@[simp] theorem setPwmConfigured_cstate : (setPwmConfigured s).cstate = s.cstate := rfl
@[simp] theorem setPwmConfigured_errcnt : (setPwmConfigured s).errcnt = s.errcnt := rfl
@[simp] theorem setPwmConfigured_dutyreq : (setPwmConfigured s).dutyreq = s.dutyreq := rfl
@[simp] theorem setPwmConfigured_pwmConfigured : (setPwmConfigured s).pwmConfigured = true := rfl
@[simp] theorem setPwmConfigured_pwmtop : (setPwmConfigured s).pwmtop = s.pwmtop := rfl
@[simp] theorem setPwmConfigured_pwmcmp : (setPwmConfigured s).pwmcmp = s.pwmcmp := rfl
@[simp] theorem setPwmConfigured_tickConfigured : (setPwmConfigured s).tickConfigured = s.tickConfigured := rfl
@[simp] theorem setPwmConfigured_tickIen : (setPwmConfigured s).tickIen = s.tickIen := rfl
@[simp] theorem setPwmConfigured_ticktop : (setPwmConfigured s).ticktop = s.ticktop := rfl
@[simp] theorem setPwmConfigured_fanEn : (setPwmConfigured s).fanEn = s.fanEn := rfl
@[simp] theorem setPwmConfigured_errInd : (setPwmConfigured s).errInd = s.errInd := rfl
@[simp] theorem setPwmConfigured_trace : (setPwmConfigured s).trace = s.trace := rfl
@[simp] theorem setPwmConfigured_script : (setPwmConfigured s).script = s.script := rfl
@[simp] theorem setPwmConfigured_reads : (setPwmConfigured s).reads = s.reads := rfl

/-! ### setTickConfigured -/

@[simp] theorem setTickConfigured_params : (setTickConfigured s).params = s.params := rfl
@[simp] theorem setTickConfigured_cfg : (setTickConfigured s).cfg = s.cfg := rfl
@[simp] theorem setTickConfigured_clk : (setTickConfigured s).clk = s.clk := rfl
@[simp] theorem setTickConfigured_freq : (setTickConfigured s).freq = s.freq := rfl
@[simp] theorem setTickConfigured_pct : (setTickConfigured s).pct = s.pct := rfl
@[simp] theorem setTickConfigured_topin : (setTickConfigured s).topin = s.topin := rfl
@[simp] theorem setTickConfigured_nsens : (setTickConfigured s).nsens = s.nsens := rfl
@[simp] theorem setTickConfigured_temp0 : (setTickConfigured s).temp0 = s.temp0 := rfl
@[simp] theorem setTickConfigured_temp1 : (setTickConfigured s).temp1 = s.temp1 := rfl
@[simp] theorem setTickConfigured_temp2 : (setTickConfigured s).temp2 = s.temp2 := rfl
@[simp] theorem setTickConfigured_temp3 : (setTickConfigured s).temp3 = s.temp3 := rfl
@[simp] theorem setTickConfigured_temp4 : (setTickConfigured s).temp4 = s.temp4 := rfl
@[simp] theorem setTickConfigured_status : (setTickConfigured s).status = s.status := rfl
@[simp] theorem setTickConfigured_rtop : (setTickConfigured s).rtop = s.rtop := rfl
@[simp] theorem setTickConfigured_rcmp : (setTickConfigured s).rcmp = s.rcmp := rfl
@[simp] theorem setTickConfigured_rach : (setTickConfigured s).rach = s.rach := rfl
@[simp] theorem setTickConfigured_cstate : (setTickConfigured s).cstate = s.cstate := rfl
@[simp] theorem setTickConfigured_errcnt : (setTickConfigured s).errcnt = s.errcnt := rfl
@[simp] theorem setTickConfigured_dutyreq : (setTickConfigured s).dutyreq = s.dutyreq := rfl
@[simp] theorem setTickConfigured_pwmConfigured : (setTickConfigured s).pwmConfigured = s.pwmConfigured := rfl
@[simp] theorem setTickConfigured_pwmtop : (setTickConfigured s).pwmtop = s.pwmtop := rfl
@[simp] theorem setTickConfigured_pwmcmp : (setTickConfigured s).pwmcmp = s.pwmcmp := rfl
@[simp] theorem setTickConfigured_tickConfigured : (setTickConfigured s).tickConfigured = true := rfl
@[simp] theorem setTickConfigured_tickIen : (setTickConfigured s).tickIen = s.tickIen := rfl
@[simp] theorem setTickConfigured_ticktop : (setTickConfigured s).ticktop = s.ticktop := rfl
@[simp] theorem setTickConfigured_fanEn : (setTickConfigured s).fanEn = s.fanEn := rfl
@[simp] theorem setTickConfigured_errInd : (setTickConfigured s).errInd = s.errInd := rfl
@[simp] theorem setTickConfigured_trace : (setTickConfigured s).trace = s.trace := rfl
@[simp] theorem setTickConfigured_script : (setTickConfigured s).script = s.script := rfl
@[simp] theorem setTickConfigured_reads : (setTickConfigured s).reads = s.reads := rfl

/-! ### setRtop -/

@[simp] theorem setRtop_params (v : Half) : (setRtop v s).params = s.params := rfl
@[simp] theorem setRtop_cfg (v : Half) : (setRtop v s).cfg = s.cfg := rfl
@[simp] theorem setRtop_clk (v : Half) : (setRtop v s).clk = s.clk := rfl
@[simp] theorem setRtop_freq (v : Half) : (setRtop v s).freq = s.freq := rfl
@[simp] theorem setRtop_pct (v : Half) : (setRtop v s).pct = s.pct := rfl
@[simp] theorem setRtop_topin (v : Half) : (setRtop v s).topin = s.topin := rfl
@[simp] theorem setRtop_nsens (v : Half) : (setRtop v s).nsens = s.nsens := rfl
@[simp] theorem setRtop_temp0 (v : Half) : (setRtop v s).temp0 = s.temp0 := rfl
@[simp] theorem setRtop_temp1 (v : Half) : (setRtop v s).temp1 = s.temp1 := rfl
@[simp] theorem setRtop_temp2 (v : Half) : (setRtop v s).temp2 = s.temp2 := rfl
@[simp] theorem setRtop_temp3 (v : Half) : (setRtop v s).temp3 = s.temp3 := rfl
@[simp] theorem setRtop_temp4 (v : Half) : (setRtop v s).temp4 = s.temp4 := rfl
@[simp] theorem setRtop_status (v : Half) : (setRtop v s).status = s.status := rfl
@[simp] theorem setRtop_rtop (v : Half) : (setRtop v s).rtop = v := rfl
@[simp] theorem setRtop_rcmp (v : Half) : (setRtop v s).rcmp = s.rcmp := rfl
@[simp] theorem setRtop_rach (v : Half) : (setRtop v s).rach = s.rach := rfl
@[simp] theorem setRtop_cstate (v : Half) : (setRtop v s).cstate = s.cstate := rfl
@[simp] theorem setRtop_errcnt (v : Half) : (setRtop v s).errcnt = s.errcnt := rfl
@[simp] theorem setRtop_dutyreq (v : Half) : (setRtop v s).dutyreq = s.dutyreq := rfl
@[simp] theorem setRtop_pwmConfigured (v : Half) : (setRtop v s).pwmConfigured = s.pwmConfigured := rfl
@[simp] theorem setRtop_pwmtop (v : Half) : (setRtop v s).pwmtop = s.pwmtop := rfl
@[simp] theorem setRtop_pwmcmp (v : Half) : (setRtop v s).pwmcmp = s.pwmcmp := rfl
@[simp] theorem setRtop_tickConfigured (v : Half) : (setRtop v s).tickConfigured = s.tickConfigured := rfl
@[simp] theorem setRtop_tickIen (v : Half) : (setRtop v s).tickIen = s.tickIen := rfl
@[simp] theorem setRtop_ticktop (v : Half) : (setRtop v s).ticktop = s.ticktop := rfl
@[simp] theorem setRtop_fanEn (v : Half) : (setRtop v s).fanEn = s.fanEn := rfl
@[simp] theorem setRtop_errInd (v : Half) : (setRtop v s).errInd = s.errInd := rfl
@[simp] theorem setRtop_trace (v : Half) : (setRtop v s).trace = s.trace := rfl
@[simp] theorem setRtop_script (v : Half) : (setRtop v s).script = s.script := rfl
@[simp] theorem setRtop_reads (v : Half) : (setRtop v s).reads = s.reads := rfl

/-! ### setQuantized -/

@[simp] theorem setQuantized_params (c : Half) (a : Word) : (setQuantized c a s).params = s.params := rfl
@[simp] theorem setQuantized_cfg (c : Half) (a : Word) : (setQuantized c a s).cfg = s.cfg := rfl
@[simp] theorem setQuantized_clk (c : Half) (a : Word) : (setQuantized c a s).clk = s.clk := rfl
@[simp] theorem setQuantized_freq (c : Half) (a : Word) : (setQuantized c a s).freq = s.freq := rfl
@[simp] theorem setQuantized_pct (c : Half) (a : Word) : (setQuantized c a s).pct = s.pct := rfl
@[simp] theorem setQuantized_topin (c : Half) (a : Word) : (setQuantized c a s).topin = s.topin := rfl
@[simp] theorem setQuantized_nsens (c : Half) (a : Word) : (setQuantized c a s).nsens = s.nsens := rfl
@[simp] theorem setQuantized_temp0 (c : Half) (a : Word) : (setQuantized c a s).temp0 = s.temp0 := rfl
@[simp] theorem setQuantized_temp1 (c : Half) (a : Word) : (setQuantized c a s).temp1 = s.temp1 := rfl
@[simp] theorem setQuantized_temp2 (c : Half) (a : Word) : (setQuantized c a s).temp2 = s.temp2 := rfl
@[simp] theorem setQuantized_temp3 (c : Half) (a : Word) : (setQuantized c a s).temp3 = s.temp3 := rfl
@[simp] theorem setQuantized_temp4 (c : Half) (a : Word) : (setQuantized c a s).temp4 = s.temp4 := rfl
@[simp] theorem setQuantized_status (c : Half) (a : Word) : (setQuantized c a s).status = s.status := rfl
@[simp] theorem setQuantized_rtop (c : Half) (a : Word) : (setQuantized c a s).rtop = s.rtop := rfl
@[simp] theorem setQuantized_rcmp (c : Half) (a : Word) : (setQuantized c a s).rcmp = c := rfl
@[simp] theorem setQuantized_rach (c : Half) (a : Word) : (setQuantized c a s).rach = a := rfl
@[simp] theorem setQuantized_cstate (c : Half) (a : Word) : (setQuantized c a s).cstate = s.cstate := rfl
@[simp] theorem setQuantized_errcnt (c : Half) (a : Word) : (setQuantized c a s).errcnt = s.errcnt := rfl
@[simp] theorem setQuantized_dutyreq (c : Half) (a : Word) : (setQuantized c a s).dutyreq = s.dutyreq := rfl
@[simp] theorem setQuantized_pwmConfigured (c : Half) (a : Word) : (setQuantized c a s).pwmConfigured = s.pwmConfigured := rfl
@[simp] theorem setQuantized_pwmtop (c : Half) (a : Word) : (setQuantized c a s).pwmtop = s.pwmtop := rfl
@[simp] theorem setQuantized_pwmcmp (c : Half) (a : Word) : (setQuantized c a s).pwmcmp = s.pwmcmp := rfl
@[simp] theorem setQuantized_tickConfigured (c : Half) (a : Word) : (setQuantized c a s).tickConfigured = s.tickConfigured := rfl
@[simp] theorem setQuantized_tickIen (c : Half) (a : Word) : (setQuantized c a s).tickIen = s.tickIen := rfl
@[simp] theorem setQuantized_ticktop (c : Half) (a : Word) : (setQuantized c a s).ticktop = s.ticktop := rfl
@[simp] theorem setQuantized_fanEn (c : Half) (a : Word) : (setQuantized c a s).fanEn = s.fanEn := rfl
@[simp] theorem setQuantized_errInd (c : Half) (a : Word) : (setQuantized c a s).errInd = s.errInd := rfl
@[simp] theorem setQuantized_trace (c : Half) (a : Word) : (setQuantized c a s).trace = s.trace := rfl
@[simp] theorem setQuantized_script (c : Half) (a : Word) : (setQuantized c a s).script = s.script := rfl
@[simp] theorem setQuantized_reads (c : Half) (a : Word) : (setQuantized c a s).reads = s.reads := rfl

/-! ### setDutyreq -/

@[simp] theorem setDutyreq_params (d : Word) : (setDutyreq d s).params = s.params := rfl
@[simp] theorem setDutyreq_cfg (d : Word) : (setDutyreq d s).cfg = s.cfg := rfl
@[simp] theorem setDutyreq_clk (d : Word) : (setDutyreq d s).clk = s.clk := rfl
@[simp] theorem setDutyreq_freq (d : Word) : (setDutyreq d s).freq = s.freq := rfl
@[simp] theorem setDutyreq_pct (d : Word) : (setDutyreq d s).pct = s.pct := rfl
@[simp] theorem setDutyreq_topin (d : Word) : (setDutyreq d s).topin = s.topin := rfl
@[simp] theorem setDutyreq_nsens (d : Word) : (setDutyreq d s).nsens = s.nsens := rfl
@[simp] theorem setDutyreq_temp0 (d : Word) : (setDutyreq d s).temp0 = s.temp0 := rfl
@[simp] theorem setDutyreq_temp1 (d : Word) : (setDutyreq d s).temp1 = s.temp1 := rfl
@[simp] theorem setDutyreq_temp2 (d : Word) : (setDutyreq d s).temp2 = s.temp2 := rfl
@[simp] theorem setDutyreq_temp3 (d : Word) : (setDutyreq d s).temp3 = s.temp3 := rfl
@[simp] theorem setDutyreq_temp4 (d : Word) : (setDutyreq d s).temp4 = s.temp4 := rfl
@[simp] theorem setDutyreq_status (d : Word) : (setDutyreq d s).status = s.status := rfl
@[simp] theorem setDutyreq_rtop (d : Word) : (setDutyreq d s).rtop = s.rtop := rfl
@[simp] theorem setDutyreq_rcmp (d : Word) : (setDutyreq d s).rcmp = s.rcmp := rfl
@[simp] theorem setDutyreq_rach (d : Word) : (setDutyreq d s).rach = s.rach := rfl
@[simp] theorem setDutyreq_cstate (d : Word) : (setDutyreq d s).cstate = s.cstate := rfl
@[simp] theorem setDutyreq_errcnt (d : Word) : (setDutyreq d s).errcnt = s.errcnt := rfl
@[simp] theorem setDutyreq_dutyreq (d : Word) : (setDutyreq d s).dutyreq = d := rfl
@[simp] theorem setDutyreq_pwmConfigured (d : Word) : (setDutyreq d s).pwmConfigured = s.pwmConfigured := rfl
@[simp] theorem setDutyreq_pwmtop (d : Word) : (setDutyreq d s).pwmtop = s.pwmtop := rfl
@[simp] theorem setDutyreq_pwmcmp (d : Word) : (setDutyreq d s).pwmcmp = s.pwmcmp := rfl
@[simp] theorem setDutyreq_tickConfigured (d : Word) : (setDutyreq d s).tickConfigured = s.tickConfigured := rfl
@[simp] theorem setDutyreq_tickIen (d : Word) : (setDutyreq d s).tickIen = s.tickIen := rfl
@[simp] theorem setDutyreq_ticktop (d : Word) : (setDutyreq d s).ticktop = s.ticktop := rfl
@[simp] theorem setDutyreq_fanEn (d : Word) : (setDutyreq d s).fanEn = s.fanEn := rfl
@[simp] theorem setDutyreq_errInd (d : Word) : (setDutyreq d s).errInd = s.errInd := rfl
@[simp] theorem setDutyreq_trace (d : Word) : (setDutyreq d s).trace = s.trace := rfl
@[simp] theorem setDutyreq_script (d : Word) : (setDutyreq d s).script = s.script := rfl
@[simp] theorem setDutyreq_reads (d : Word) : (setDutyreq d s).reads = s.reads := rfl

/-! ### setErrcnt -/

@[simp] theorem setErrcnt_params (e : Byte) : (setErrcnt e s).params = s.params := rfl
@[simp] theorem setErrcnt_cfg (e : Byte) : (setErrcnt e s).cfg = s.cfg := rfl
@[simp] theorem setErrcnt_clk (e : Byte) : (setErrcnt e s).clk = s.clk := rfl
@[simp] theorem setErrcnt_freq (e : Byte) : (setErrcnt e s).freq = s.freq := rfl
@[simp] theorem setErrcnt_pct (e : Byte) : (setErrcnt e s).pct = s.pct := rfl
@[simp] theorem setErrcnt_topin (e : Byte) : (setErrcnt e s).topin = s.topin := rfl
@[simp] theorem setErrcnt_nsens (e : Byte) : (setErrcnt e s).nsens = s.nsens := rfl
@[simp] theorem setErrcnt_temp0 (e : Byte) : (setErrcnt e s).temp0 = s.temp0 := rfl
@[simp] theorem setErrcnt_temp1 (e : Byte) : (setErrcnt e s).temp1 = s.temp1 := rfl
@[simp] theorem setErrcnt_temp2 (e : Byte) : (setErrcnt e s).temp2 = s.temp2 := rfl
@[simp] theorem setErrcnt_temp3 (e : Byte) : (setErrcnt e s).temp3 = s.temp3 := rfl
@[simp] theorem setErrcnt_temp4 (e : Byte) : (setErrcnt e s).temp4 = s.temp4 := rfl
@[simp] theorem setErrcnt_status (e : Byte) : (setErrcnt e s).status = s.status := rfl
@[simp] theorem setErrcnt_rtop (e : Byte) : (setErrcnt e s).rtop = s.rtop := rfl
@[simp] theorem setErrcnt_rcmp (e : Byte) : (setErrcnt e s).rcmp = s.rcmp := rfl
@[simp] theorem setErrcnt_rach (e : Byte) : (setErrcnt e s).rach = s.rach := rfl
@[simp] theorem setErrcnt_cstate (e : Byte) : (setErrcnt e s).cstate = s.cstate := rfl
@[simp] theorem setErrcnt_errcnt (e : Byte) : (setErrcnt e s).errcnt = e := rfl
@[simp] theorem setErrcnt_dutyreq (e : Byte) : (setErrcnt e s).dutyreq = s.dutyreq := rfl
@[simp] theorem setErrcnt_pwmConfigured (e : Byte) : (setErrcnt e s).pwmConfigured = s.pwmConfigured := rfl
@[simp] theorem setErrcnt_pwmtop (e : Byte) : (setErrcnt e s).pwmtop = s.pwmtop := rfl
@[simp] theorem setErrcnt_pwmcmp (e : Byte) : (setErrcnt e s).pwmcmp = s.pwmcmp := rfl
@[simp] theorem setErrcnt_tickConfigured (e : Byte) : (setErrcnt e s).tickConfigured = s.tickConfigured := rfl
@[simp] theorem setErrcnt_tickIen (e : Byte) : (setErrcnt e s).tickIen = s.tickIen := rfl
@[simp] theorem setErrcnt_ticktop (e : Byte) : (setErrcnt e s).ticktop = s.ticktop := rfl
@[simp] theorem setErrcnt_fanEn (e : Byte) : (setErrcnt e s).fanEn = s.fanEn := rfl
@[simp] theorem setErrcnt_errInd (e : Byte) : (setErrcnt e s).errInd = s.errInd := rfl
@[simp] theorem setErrcnt_trace (e : Byte) : (setErrcnt e s).trace = s.trace := rfl
@[simp] theorem setErrcnt_script (e : Byte) : (setErrcnt e s).script = s.script := rfl
@[simp] theorem setErrcnt_reads (e : Byte) : (setErrcnt e s).reads = s.reads := rfl

/-! ### setCstate -/

@[simp] theorem setCstate_params (st : ControlState) : (setCstate st s).params = s.params := rfl
@[simp] theorem setCstate_cfg (st : ControlState) : (setCstate st s).cfg = s.cfg := rfl
@[simp] theorem setCstate_clk (st : ControlState) : (setCstate st s).clk = s.clk := rfl
@[simp] theorem setCstate_freq (st : ControlState) : (setCstate st s).freq = s.freq := rfl
@[simp] theorem setCstate_pct (st : ControlState) : (setCstate st s).pct = s.pct := rfl
@[simp] theorem setCstate_topin (st : ControlState) : (setCstate st s).topin = s.topin := rfl
@[simp] theorem setCstate_nsens (st : ControlState) : (setCstate st s).nsens = s.nsens := rfl
@[simp] theorem setCstate_temp0 (st : ControlState) : (setCstate st s).temp0 = s.temp0 := rfl
@[simp] theorem setCstate_temp1 (st : ControlState) : (setCstate st s).temp1 = s.temp1 := rfl
@[simp] theorem setCstate_temp2 (st : ControlState) : (setCstate st s).temp2 = s.temp2 := rfl
@[simp] theorem setCstate_temp3 (st : ControlState) : (setCstate st s).temp3 = s.temp3 := rfl
@[simp] theorem setCstate_temp4 (st : ControlState) : (setCstate st s).temp4 = s.temp4 := rfl
@[simp] theorem setCstate_status (st : ControlState) : (setCstate st s).status = s.status := rfl
@[simp] theorem setCstate_rtop (st : ControlState) : (setCstate st s).rtop = s.rtop := rfl
@[simp] theorem setCstate_rcmp (st : ControlState) : (setCstate st s).rcmp = s.rcmp := rfl
@[simp] theorem setCstate_rach (st : ControlState) : (setCstate st s).rach = s.rach := rfl
@[simp] theorem setCstate_cstate (st : ControlState) : (setCstate st s).cstate = some st := rfl
@[simp] theorem setCstate_errcnt (st : ControlState) : (setCstate st s).errcnt = s.errcnt := rfl
@[simp] theorem setCstate_dutyreq (st : ControlState) : (setCstate st s).dutyreq = s.dutyreq := rfl
@[simp] theorem setCstate_pwmConfigured (st : ControlState) : (setCstate st s).pwmConfigured = s.pwmConfigured := rfl
@[simp] theorem setCstate_pwmtop (st : ControlState) : (setCstate st s).pwmtop = s.pwmtop := rfl
@[simp] theorem setCstate_pwmcmp (st : ControlState) : (setCstate st s).pwmcmp = s.pwmcmp := rfl
@[simp] theorem setCstate_tickConfigured (st : ControlState) : (setCstate st s).tickConfigured = s.tickConfigured := rfl
@[simp] theorem setCstate_tickIen (st : ControlState) : (setCstate st s).tickIen = s.tickIen := rfl
@[simp] theorem setCstate_ticktop (st : ControlState) : (setCstate st s).ticktop = s.ticktop := rfl
@[simp] theorem setCstate_fanEn (st : ControlState) : (setCstate st s).fanEn = s.fanEn := rfl
@[simp] theorem setCstate_errInd (st : ControlState) : (setCstate st s).errInd = s.errInd := rfl
@[simp] theorem setCstate_trace (st : ControlState) : (setCstate st s).trace = s.trace := rfl
@[simp] theorem setCstate_script (st : ControlState) : (setCstate st s).script = s.script := rfl
@[simp] theorem setCstate_reads (st : ControlState) : (setCstate st s).reads = s.reads := rfl

/-! ### consumeSnapshot -/

@[simp] theorem consumeSnapshot_params : (consumeSnapshot s).params = s.params := rfl
@[simp] theorem consumeSnapshot_cfg : (consumeSnapshot s).cfg = s.cfg := rfl
@[simp] theorem consumeSnapshot_clk : (consumeSnapshot s).clk = s.clk := rfl
@[simp] theorem consumeSnapshot_freq : (consumeSnapshot s).freq = s.freq := rfl
@[simp] theorem consumeSnapshot_pct : (consumeSnapshot s).pct = s.pct := rfl
@[simp] theorem consumeSnapshot_topin : (consumeSnapshot s).topin = s.topin := rfl
@[simp] theorem consumeSnapshot_nsens : (consumeSnapshot s).nsens = 0#8 := rfl
@[simp] theorem consumeSnapshot_temp0 : (consumeSnapshot s).temp0 = s.cfg.sentinel := rfl
@[simp] theorem consumeSnapshot_temp1 : (consumeSnapshot s).temp1 = s.cfg.sentinel := rfl
@[simp] theorem consumeSnapshot_temp2 : (consumeSnapshot s).temp2 = s.cfg.sentinel := rfl
@[simp] theorem consumeSnapshot_temp3 : (consumeSnapshot s).temp3 = s.cfg.sentinel := rfl
@[simp] theorem consumeSnapshot_temp4 : (consumeSnapshot s).temp4 = s.cfg.sentinel := rfl
@[simp] theorem consumeSnapshot_status : (consumeSnapshot s).status = s.status := rfl
@[simp] theorem consumeSnapshot_rtop : (consumeSnapshot s).rtop = s.rtop := rfl
@[simp] theorem consumeSnapshot_rcmp : (consumeSnapshot s).rcmp = s.rcmp := rfl
@[simp] theorem consumeSnapshot_rach : (consumeSnapshot s).rach = s.rach := rfl
@[simp] theorem consumeSnapshot_cstate : (consumeSnapshot s).cstate = s.cstate := rfl
@[simp] theorem consumeSnapshot_errcnt : (consumeSnapshot s).errcnt = s.errcnt := rfl
@[simp] theorem consumeSnapshot_dutyreq : (consumeSnapshot s).dutyreq = s.dutyreq := rfl
@[simp] theorem consumeSnapshot_pwmConfigured : (consumeSnapshot s).pwmConfigured = s.pwmConfigured := rfl
@[simp] theorem consumeSnapshot_pwmtop : (consumeSnapshot s).pwmtop = s.pwmtop := rfl
@[simp] theorem consumeSnapshot_pwmcmp : (consumeSnapshot s).pwmcmp = s.pwmcmp := rfl
@[simp] theorem consumeSnapshot_tickConfigured : (consumeSnapshot s).tickConfigured = s.tickConfigured := rfl
@[simp] theorem consumeSnapshot_tickIen : (consumeSnapshot s).tickIen = s.tickIen := rfl
@[simp] theorem consumeSnapshot_ticktop : (consumeSnapshot s).ticktop = s.ticktop := rfl
@[simp] theorem consumeSnapshot_fanEn : (consumeSnapshot s).fanEn = s.fanEn := rfl
@[simp] theorem consumeSnapshot_errInd : (consumeSnapshot s).errInd = s.errInd := rfl
@[simp] theorem consumeSnapshot_trace : (consumeSnapshot s).trace = s.trace := rfl
@[simp] theorem consumeSnapshot_script : (consumeSnapshot s).script = s.script := rfl
@[simp] theorem consumeSnapshot_reads : (consumeSnapshot s).reads = s.reads := rfl

/-! ### withScript -/

@[simp] theorem withScript_params (rest : List HostAct) : (withScript rest s).params = s.params := rfl
@[simp] theorem withScript_cfg (rest : List HostAct) : (withScript rest s).cfg = s.cfg := rfl
@[simp] theorem withScript_clk (rest : List HostAct) : (withScript rest s).clk = s.clk := rfl
@[simp] theorem withScript_freq (rest : List HostAct) : (withScript rest s).freq = s.freq := rfl
@[simp] theorem withScript_pct (rest : List HostAct) : (withScript rest s).pct = s.pct := rfl
@[simp] theorem withScript_topin (rest : List HostAct) : (withScript rest s).topin = s.topin := rfl
@[simp] theorem withScript_nsens (rest : List HostAct) : (withScript rest s).nsens = s.nsens := rfl
@[simp] theorem withScript_temp0 (rest : List HostAct) : (withScript rest s).temp0 = s.temp0 := rfl
@[simp] theorem withScript_temp1 (rest : List HostAct) : (withScript rest s).temp1 = s.temp1 := rfl
@[simp] theorem withScript_temp2 (rest : List HostAct) : (withScript rest s).temp2 = s.temp2 := rfl
@[simp] theorem withScript_temp3 (rest : List HostAct) : (withScript rest s).temp3 = s.temp3 := rfl
@[simp] theorem withScript_temp4 (rest : List HostAct) : (withScript rest s).temp4 = s.temp4 := rfl
@[simp] theorem withScript_status (rest : List HostAct) : (withScript rest s).status = s.status := rfl
@[simp] theorem withScript_rtop (rest : List HostAct) : (withScript rest s).rtop = s.rtop := rfl
@[simp] theorem withScript_rcmp (rest : List HostAct) : (withScript rest s).rcmp = s.rcmp := rfl
@[simp] theorem withScript_rach (rest : List HostAct) : (withScript rest s).rach = s.rach := rfl
@[simp] theorem withScript_cstate (rest : List HostAct) : (withScript rest s).cstate = s.cstate := rfl
@[simp] theorem withScript_errcnt (rest : List HostAct) : (withScript rest s).errcnt = s.errcnt := rfl
@[simp] theorem withScript_dutyreq (rest : List HostAct) : (withScript rest s).dutyreq = s.dutyreq := rfl
@[simp] theorem withScript_pwmConfigured (rest : List HostAct) : (withScript rest s).pwmConfigured = s.pwmConfigured := rfl
@[simp] theorem withScript_pwmtop (rest : List HostAct) : (withScript rest s).pwmtop = s.pwmtop := rfl
@[simp] theorem withScript_pwmcmp (rest : List HostAct) : (withScript rest s).pwmcmp = s.pwmcmp := rfl
@[simp] theorem withScript_tickConfigured (rest : List HostAct) : (withScript rest s).tickConfigured = s.tickConfigured := rfl
@[simp] theorem withScript_tickIen (rest : List HostAct) : (withScript rest s).tickIen = s.tickIen := rfl
@[simp] theorem withScript_ticktop (rest : List HostAct) : (withScript rest s).ticktop = s.ticktop := rfl
@[simp] theorem withScript_fanEn (rest : List HostAct) : (withScript rest s).fanEn = s.fanEn := rfl
@[simp] theorem withScript_errInd (rest : List HostAct) : (withScript rest s).errInd = s.errInd := rfl
@[simp] theorem withScript_trace (rest : List HostAct) : (withScript rest s).trace = s.trace := rfl
@[simp] theorem withScript_script (rest : List HostAct) : (withScript rest s).script = rest := rfl
@[simp] theorem withScript_reads (rest : List HostAct) : (withScript rest s).reads = s.reads := rfl

/-! ### busRead -/

@[simp] theorem busRead_params (i : Index) : (busRead i s).params = s.params := rfl
@[simp] theorem busRead_cfg (i : Index) : (busRead i s).cfg = s.cfg := rfl
@[simp] theorem busRead_clk (i : Index) : (busRead i s).clk = s.clk := rfl
@[simp] theorem busRead_freq (i : Index) : (busRead i s).freq = s.freq := rfl
@[simp] theorem busRead_pct (i : Index) : (busRead i s).pct = s.pct := rfl
@[simp] theorem busRead_topin (i : Index) : (busRead i s).topin = s.topin := rfl
@[simp] theorem busRead_nsens (i : Index) : (busRead i s).nsens = s.nsens := rfl
@[simp] theorem busRead_temp0 (i : Index) : (busRead i s).temp0 = s.temp0 := rfl
@[simp] theorem busRead_temp1 (i : Index) : (busRead i s).temp1 = s.temp1 := rfl
@[simp] theorem busRead_temp2 (i : Index) : (busRead i s).temp2 = s.temp2 := rfl
@[simp] theorem busRead_temp3 (i : Index) : (busRead i s).temp3 = s.temp3 := rfl
@[simp] theorem busRead_temp4 (i : Index) : (busRead i s).temp4 = s.temp4 := rfl
@[simp] theorem busRead_status (i : Index) : (busRead i s).status = s.status := rfl
@[simp] theorem busRead_rtop (i : Index) : (busRead i s).rtop = s.rtop := rfl
@[simp] theorem busRead_rcmp (i : Index) : (busRead i s).rcmp = s.rcmp := rfl
@[simp] theorem busRead_rach (i : Index) : (busRead i s).rach = s.rach := rfl
@[simp] theorem busRead_cstate (i : Index) : (busRead i s).cstate = s.cstate := rfl
@[simp] theorem busRead_errcnt (i : Index) : (busRead i s).errcnt = s.errcnt := rfl
@[simp] theorem busRead_dutyreq (i : Index) : (busRead i s).dutyreq = s.dutyreq := rfl
@[simp] theorem busRead_pwmConfigured (i : Index) : (busRead i s).pwmConfigured = s.pwmConfigured := rfl
@[simp] theorem busRead_pwmtop (i : Index) : (busRead i s).pwmtop = s.pwmtop := rfl
@[simp] theorem busRead_pwmcmp (i : Index) : (busRead i s).pwmcmp = s.pwmcmp := rfl
@[simp] theorem busRead_tickConfigured (i : Index) : (busRead i s).tickConfigured = s.tickConfigured := rfl
@[simp] theorem busRead_tickIen (i : Index) : (busRead i s).tickIen = s.tickIen := rfl
@[simp] theorem busRead_ticktop (i : Index) : (busRead i s).ticktop = s.ticktop := rfl
@[simp] theorem busRead_fanEn (i : Index) : (busRead i s).fanEn = s.fanEn := rfl
@[simp] theorem busRead_errInd (i : Index) : (busRead i s).errInd = s.errInd := rfl
@[simp] theorem busRead_trace (i : Index) : (busRead i s).trace = s.trace := rfl
@[simp] theorem busRead_script (i : Index) : (busRead i s).script = s.script := rfl
@[simp] theorem busRead_reads (i : Index) : (busRead i s).reads = s.reads ++ [readIndex i s] := rfl

end Sys2Proof.Machine
end

