-- ==== Sys2Proof/Laws/Controller.lean ====
section
/-! SUPPORT. What the controller's operations of Machine/ThermalController.lean and the shared `driveDuty` can do. -/

namespace Sys2Proof.Machine

/-- `driveDuty` writes four things and no more (R124, R162). -/
theorem driveDuty_eq (p : Int) (s : State) :
    driveDuty p s =
      { s with
        pwmcmp := BitVec.ofNat 16 (compareValue s.pwmtop.toNat p)
        rcmp := BitVec.ofNat 16 (compareValue s.pwmtop.toNat p)
        rach := BitVec.ofInt 32 (achieved s.pwmtop.toNat (compareValue s.pwmtop.toNat p))
        trace := s.trace ++ [.pwmCmp (BitVec.ofNat 16 (compareValue s.pwmtop.toNat p))] } := rfl

/-- `applyDuty` records the request, and drives it on a configured channel only (R162, R166). -/
theorem applyDuty_cases (d : Int) (s : State) :
    (s.pwmConfigured = true ∧ applyDuty d s = (driveDuty d (setDutyreq (fxWord d) s), .ok)) ∨
      (s.pwmConfigured = false ∧ applyDuty d s = (setDutyreq (fxWord d) s, .notConfigured)) := by
  cases h : s.pwmConfigured <;> simp [applyDuty, h]

/-- The alarm of an ERROR cycle: sixteen events, and the indicator ends low (R164). -/
theorem pulses_eq (s : State) :
    pulses PULSES s = { s with errInd := false, trace := s.trace ++ alarm } := by
  simp [pulses, emit, driveErr, alarm]

/-- The counter of an ERROR cycle trips or counts (R163). -/
theorem countError_cases (s : State) :
    (s.cfg.maxerr.toNat < s.errcnt.toNat + 1 ∧
        countError s = { s with errcnt := 0#8, fanEn := false, trace := s.trace ++ [.fanEn false] }) ∨
      (s.errcnt.toNat + 1 ≤ s.cfg.maxerr.toNat ∧
        countError s = { s with errcnt := BitVec.ofNat 8 (s.errcnt.toNat + 1) }) := by
  by_cases h : s.errcnt.toNat + 1 > s.cfg.maxerr.toNat
  · exact .inl ⟨h, by simp [countError, h, setErrcnt, driveFan, emit]⟩
  · exact .inr ⟨by omega, by simp [countError, h, setErrcnt]⟩

/-- A cycle's action is the ERROR action, or one duty after the fan is driven and the counter cleared (R157 to R163). -/
theorem act_cases (st : ControlState) (s : State) :
    (st = .error ∧ act st s = actError s) ∨
      ∃ d b, st ≠ .error ∧ (b = false ↔ st = .cold) ∧ act st s = applyDuty d (driveFan b (setErrcnt 0#8 s)) := by
  cases st with
  | hot => exact .inr ⟨HUNDRED, true, by simp, by simp, rfl⟩
  | warm => exact .inr ⟨warmDuty s.cfg (greatest (snapshot s)), true, by simp, by simp, rfl⟩
  | cold => exact .inr ⟨HUNDRED, false, by simp, by simp, rfl⟩
  | error => exact .inl ⟨rfl, rfl⟩

/-- CYCLE always completes, with the report, the consumption and the status after the action (R150). -/
theorem exec_cycle (s : State) :
    exec .cycle s = .next (finishCycle (cycleState s) (act (cycleState s) s)) := rfl

/-- The least reading is one of the readings, and none is below it (R153). -/
theorem least_spec {ts : List Int} (h : ts ≠ []) : least ts ∈ ts ∧ ∀ t ∈ ts, least ts ≤ t := by
  induction ts with
  | nil => exact absurd rfl h
  | cons t ts ih =>
    cases ts with
    | nil => simp [least]
    | cons u us =>
      have ⟨hm, hb⟩ := ih (by simp)
      have hl : least (t :: u :: us) = min t (least (u :: us)) := rfl
      rw [hl]
      refine ⟨?_, fun x hx => ?_⟩
      · rcases min_choice t (least (u :: us)) with h' | h' <;> rw [h']
        · exact List.mem_cons_self
        · exact List.mem_cons_of_mem _ hm
      · rcases List.mem_cons.1 hx with rfl | hx
        · exact min_le_left _ _
        · exact le_trans (min_le_right _ _) (hb x hx)

/-- The greatest reading is one of the readings, and none is above it (R153). -/
theorem greatest_spec {ts : List Int} (h : ts ≠ []) : greatest ts ∈ ts ∧ ∀ t ∈ ts, t ≤ greatest ts := by
  induction ts with
  | nil => exact absurd rfl h
  | cons t ts ih =>
    cases ts with
    | nil => simp [greatest]
    | cons u us =>
      have ⟨hm, hb⟩ := ih (by simp)
      have hl : greatest (t :: u :: us) = max t (greatest (u :: us)) := rfl
      rw [hl]
      refine ⟨?_, fun x hx => ?_⟩
      · rcases max_choice t (greatest (u :: us)) with h' | h' <;> rw [h']
        · exact List.mem_cons_self
        · exact List.mem_cons_of_mem _ hm
      · rcases List.mem_cons.1 hx with rfl | hx
        · exact le_max_left _ _
        · exact le_trans (hb x hx) (le_max_right _ _)

/-- A snapshot of at least one reading is not empty. -/
theorem take_readings_ne_nil (s : State) {n : Nat} (h : n ≠ 0) : (readings s).take n ≠ [] := by
  cases n with
  | zero => exact absurd rfl h
  | succ n => simp [readings]

/-- The decision of the classifier, in the order of its steps (R152, R153, R154). -/
theorem classify_cases (c : Cfg) (n : Nat) (t : List Int) :
    ((n = 0 ∨ c.maxsens.toNat < n) ∧ classify c n t = .error) ∨
      (0 < n ∧ n ≤ c.maxsens.toNat ∧ least (t.take n) = fxInt c.sentinel ∧ classify c n t = .error) ∨
      (0 < n ∧ n ≤ c.maxsens.toNat ∧ least (t.take n) ≠ fxInt c.sentinel ∧
        classify c n t = classifyMax c (greatest (t.take n))) := by
  by_cases h : n = 0 ∨ n > c.maxsens.toNat
  · exact .inl ⟨h, by simp [classify, h]⟩
  · by_cases h' : least (t.take n) = fxInt c.sentinel
    · exact .inr (.inl ⟨by omega, by omega, h', by simp [classify, h, h']⟩)
    · exact .inr (.inr ⟨by omega, by omega, h', by simp [classify, h, h']⟩)

/-- A register that comes out the same of both runs, whether it was written or not. -/
theorem sameAfter_of_eq {α : Type} {f : State → α} {wrote : Prop} {s₁ t₁ s₂ t₂ : State} (h : f t₁ = f t₂) :
    SameAfter f wrote s₁ t₁ s₂ t₂ := fun _ => h

/-- A register that both runs keep, and that the command therefore did not write. -/
theorem sameAfter_of_kept {α : Type} {f : State → α} {wrote : Prop} {s₁ t₁ s₂ t₂ : State} (hw : ¬ wrote)
    (h₁ : f t₁ = f s₁) (h₂ : f t₂ = f s₂) : SameAfter f wrote s₁ t₁ s₂ t₂ :=
  fun h => (h₁.trans (h.resolve_left hw)).trans h₂.symm

end Sys2Proof.Machine
end

