-- ==== Sys2Proof/Laws/Decode.lean ====
section
/-! SUPPORT. The fields of a command word as numbers: the slices of spec/30_encoding.md R81 by division. -/

namespace Sys2Proof

@[simp] theorem opField_toNat (w : Word) : (opField w).toNat = w.toNat % 16 := by simp [opField]

@[simp] theorem pselField_toNat (w : Word) : (pselField w).toNat = w.toNat / 16 % 8 := by
  simp [pselField, Nat.shiftRight_eq_div_pow]

@[simp] theorem bwField_toNat (w : Word) : (bwField w).toNat = w.toNat / 128 % 2 := by
  simp only [bwField, BitVec.extractLsb'_toNat, Nat.shiftRight_eq_div_pow]

theorem zeroFieldZ_eq_zero_iff (w : Word) : zeroFieldZ w = 0#28 ↔ w.toNat / 16 = 0 := by
  have hw := w.isLt
  simp only [zeroFieldZ, BitVec.toNat_eq, BitVec.extractLsb'_toNat, Nat.shiftRight_eq_div_pow, BitVec.toNat_ofNat]
  omega

theorem zeroFieldT_eq_zero_iff (w : Word) : zeroFieldT w = 0#24 ↔ w.toNat / 256 = 0 := by
  have hw := w.isLt
  simp only [zeroFieldT, BitVec.toNat_eq, BitVec.extractLsb'_toNat, Nat.shiftRight_eq_div_pow, BitVec.toNat_ofNat]
  omega

/-- The decoder by the opcode of the word as a number. -/
theorem decode_eq (w : Word) :
    decode w =
      match w.toNat % 16 with
      | 1 => decodeT w
      | 2 => decodeZ w .cmp "CMP"
      | 3 => decodeZ w .pwmcfg "PWMCFG"
      | 4 => decodeZ w .pwmduty "PWMDUTY"
      | 5 => decodeZ w .tickcfg "TICKCFG"
      | 6 => decodeZ w .cycle "CYCLE"
      | _ => .illegal (.reservedOpcode (opField w)) := by
  rw [← opField_toNat]; rfl

/-- The word of TOP as a number (R81). -/
theorem encode_top_toNat (psel : BitVec 3) (bw : BitVec 1) :
    (encode (.top psel bw)).toNat = 1 + 16 * psel.toNat + 128 * bw.toNat := by
  revert psel bw; decide

end Sys2Proof
end

