-- ==== Sys2Proof/Laws/Formulas.lean ====
section
/-! SUPPORT. The model's arithmetic equals the rules' formulas as Safety.lean spells them out for the statements. -/

namespace Sys2Proof.Machine

theorem rnd_eq_topQuotient (F C P : Nat) : rnd (256 * C) (P * F) = (topQuotient F C P : Int) := by
  unfold rnd topQuotient
  push_cast
  congr 1
  ring

/-- `computeTop` by the quotient of R101 and the range of R103. -/
theorem computeTop_eq (F C P b : Nat) :
    computeTop F C P b = if TopFits F C P b then .ok (topQuotient F C P - 1) else .overflow := by
  have hb : ((2 : Int) ^ b) = ((2 ^ b : Nat) : Int) := by push_cast; rfl
  unfold computeTop TopFits checkTop
  rw [rnd_eq_topQuotient, hb]
  by_cases hF : F = 0
  · simp [hF]
  · simp only [hF, if_false]
    split <;> split <;> first | rfl | (exfalso; omega) | (congr 1; omega)

theorem clamp_eq_clampedPct (p : Int) : clamp p 0 HUNDRED = clampedPct p := by
  unfold clamp clampedPct HUNDRED; omega

theorem rawCount_eq_quantRaw (T : Nat) (p : Int) : rawCount T p = quantRaw T p := by
  unfold rawCount quantRaw rnd
  rw [clamp_eq_clampedPct]
  congr 1
  ring

theorem compareValue_eq_quantCompare (T : Nat) (p : Int) : compareValue T p = quantCompare T p := by
  unfold compareValue quantCompare; rw [rawCount_eq_quantRaw]

theorem achieved_eq_quantAchieved (T : Nat) (p : Int) : achieved T (quantCompare T p) = quantAchieved T p := by
  have h (c : Int) : 2 * (HUNDRED * (c + 1)) = 13107200 * (c + 1) := by rw [← mul_assoc]; norm_num
  unfold achieved quantAchieved rnd
  rw [h]

/-- What a driven duty leaves is what the statements' `afterDuty` spells out. -/
theorem driveDuty_eq_afterDuty (p : Int) (s : State) : driveDuty p s = afterDuty p s := by
  simp only [driveDuty, computeCompare, channelTop, setQuantized, drivePwmCmp, emit, fxWord, afterDuty,
    compareValue_eq_quantCompare, achieved_eq_quantAchieved]

/-- The readings `CYCLE` uses are the ones the statements name. -/
theorem snapshot_eq_usedReadings (s : State) : snapshot s = usedReadings s := rfl

end Sys2Proof.Machine
end

