-- ==== Sys2Proof/Laws/PerInstr.lean ====
section
/-! SUPPORT. Facts of each command as syntax. The family `InOpcodeRow`: the command's word belongs to the command's row
of spec/opcode_table.json, and the command is well formed. -/

namespace Sys2Proof.Laws

/-- The word `encode` writes agrees with the pattern of the command's row on the row's mask (R82), the row is one of
the table, and the command is well formed. -/
def InOpcodeRow.Statement (i : Instr) : Prop :=
  encode i &&& (opcodeRow i).mask = (opcodeRow i).pattern ∧ opcodeRow i ∈ opcodeRows ∧ i.wellFormed = true

theorem InOpcodeRow.top (psel : BitVec 3) (bw : BitVec 1) : InOpcodeRow.Statement (.top psel bw) := by
  revert psel bw; unfold InOpcodeRow.Statement; decide

theorem InOpcodeRow.cmp : InOpcodeRow.Statement .cmp := by unfold InOpcodeRow.Statement; decide

theorem InOpcodeRow.pwmcfg : InOpcodeRow.Statement .pwmcfg := by unfold InOpcodeRow.Statement; decide

theorem InOpcodeRow.pwmduty : InOpcodeRow.Statement .pwmduty := by unfold InOpcodeRow.Statement; decide

theorem InOpcodeRow.tickcfg : InOpcodeRow.Statement .tickcfg := by unfold InOpcodeRow.Statement; decide

theorem InOpcodeRow.cycle : InOpcodeRow.Statement .cycle := by unfold InOpcodeRow.Statement; decide

/-- No ill-formed command exists: the types bound the fields of R81. -/
theorem instr_wellFormed (i : Instr) : i.wellFormed = true := by
  cases i <;> simp [Instr.wellFormed]
  omega

end Sys2Proof.Laws
end

