-- ==== Sys2Proof/Laws/Step.lean ====
section
/-! SUPPORT. What each command, each act of the host and one step can do: the inversion lemmas the proofs cite. -/

namespace Sys2Proof.Machine

/-- TOP: a bad operand, an overflow, or a new `RTOP` (R100). -/
theorem execTop_cases (psel : BitVec 3) (bw : BitVec 1) (s : State) :
    (prescOfCode psel = none ∧ execTop psel bw s = .next (raise .badOperand s)) ∨
      (∃ P, prescOfCode psel = some P ∧
        computeTop (opF s) (opC s) (divider P) (widthBits (widthOfCode bw)) = .overflow ∧
        execTop psel bw s = .next (raise .overflow s)) ∨
      ∃ P top, prescOfCode psel = some P ∧
        computeTop (opF s) (opC s) (divider P) (widthBits (widthOfCode bw)) = .ok top ∧
        execTop psel bw s = .next (raise .ok (setRtop (BitVec.ofNat 16 top) s)) := by
  cases hp : prescOfCode psel with
  | none => exact .inl ⟨rfl, by simp [execTop, hp]⟩
  | some P =>
    rcases computeTop_cases (opF s) (opC s) (divider P) (widthBits (widthOfCode bw)) with h | ⟨top, h⟩
    · exact .inr (.inl ⟨P, rfl, h, by simp [execTop, topWith, hp, h]⟩)
    · exact .inr (.inr ⟨P, top, rfl, h, by simp [execTop, topWith, hp, h]⟩)

/-- PWMCFG: an overflow, or the whole configuration (R120, R122). -/
theorem execPwmcfg_cases (s : State) :
    (computeTop (opF s) (opC s) (divider s.params.pwmPrescaler) (widthBits s.params.pwmBits) = .overflow ∧
        execPwmcfg s = .next (raise .overflow s)) ∨
      ∃ top, computeTop (opF s) (opC s) (divider s.params.pwmPrescaler) (widthBits s.params.pwmBits) = .ok top ∧
        execPwmcfg s = .next (raise .ok (configurePwm (BitVec.ofNat 16 top) s)) := by
  rcases computeTop_cases (opF s) (opC s) (divider s.params.pwmPrescaler) (widthBits s.params.pwmBits) with
    h | ⟨top, h⟩
  · exact .inl ⟨h, by simp [execPwmcfg, h]⟩
  · exact .inr ⟨top, h, by simp [execPwmcfg, h]⟩

/-- TICKCFG: an overflow, or the whole configuration (R140). -/
theorem execTickcfg_cases (s : State) :
    (computeTop (opF s) (opC s) (divider s.params.tickPrescaler) (widthBits s.params.tickBits) = .overflow ∧
        execTickcfg s = .next (raise .overflow s)) ∨
      ∃ top, computeTop (opF s) (opC s) (divider s.params.tickPrescaler) (widthBits s.params.tickBits) = .ok top ∧
        execTickcfg s = .next (raise .ok (configureTick (BitVec.ofNat 16 top) s)) := by
  rcases computeTop_cases (opF s) (opC s) (divider s.params.tickPrescaler) (widthBits s.params.tickBits) with
    h | ⟨top, h⟩
  · exact .inl ⟨h, by simp [execTickcfg, h]⟩
  · exact .inr ⟨top, h, by simp [execTickcfg, h]⟩

/-- PWMDUTY: refused on an unconfigured channel, else driven (R124, R126). -/
theorem execPwmduty_cases (s : State) :
    (s.pwmConfigured = false ∧ execPwmduty s = .next (raise .notConfigured s)) ∨
      (s.pwmConfigured = true ∧ execPwmduty s = .next (raise .ok (driveDuty (opP s) s))) := by
  cases h : s.pwmConfigured <;> simp [execPwmduty, h]

/-- A word written to `CMD` runs the command it decodes to, or sets `ILLEGAL_CMD` (R80, R83). -/
theorem runCommand_cases (w : Word) (s : State) :
    (∃ i, decode w = .instr i ∧ runCommand w s = exec i s) ∨
      ∃ e, decode w = .illegal e ∧ runCommand w s = .next (raise .illegalCmd s) := by
  cases h : decode w with
  | instr i => exact .inl ⟨i, rfl, by simp [runCommand, h]⟩
  | illegal e => exact .inr ⟨e, rfl, by simp [runCommand, h]⟩

/-- A bus write does nothing, starts a command, or stores (R63). -/
theorem busWrite_cases (i : Index) (v : Word) (s : State) :
    (regAt i = none ∧ busWrite i v s = .next s) ∨
      (regAt i = some .cmd ∧ busWrite i v s = runCommand v s) ∨
      ∃ r, r ≠ .cmd ∧ regAt i = some r ∧ busWrite i v s = .next (storeReg r v s) := by
  cases h : regAt i with
  | none => exact .inl ⟨rfl, by simp [busWrite, h]⟩
  | some r => cases r <;> simp [busWrite, h]

/-- A store reaches the ten operand registers and nothing else (R63). -/
theorem storeReg_frame (r : RegName) (v : Word) (s : State) :
    storeReg r v s =
      { s with
        clk := (storeReg r v s).clk, freq := (storeReg r v s).freq, pct := (storeReg r v s).pct
        topin := (storeReg r v s).topin, nsens := (storeReg r v s).nsens, temp0 := (storeReg r v s).temp0
        temp1 := (storeReg r v s).temp1, temp2 := (storeReg r v s).temp2, temp3 := (storeReg r v s).temp3
        temp4 := (storeReg r v s).temp4 } := by
  cases r <;> rfl

/-- One step: the host presents nothing, a read, a write, or a reset of a well-formed or an ill-formed `cfg`. -/
theorem step_cases (s : State) :
    (s.script = [] ∧ step s = .next s) ∨
      (∃ i rest, s.script = .bus (.read i) :: rest ∧ step s = .next (busRead i (withScript rest s))) ∨
      (∃ i v rest, s.script = .bus (.write i v) :: rest ∧ step s = busWrite i v (withScript rest s)) ∨
      (∃ c rest, s.script = .reset c :: rest ∧ c.WellFormed ∧
        step s = .next { State.resetWith s.params c with script := rest }) ∨
      ∃ c rest, s.script = .reset c :: rest ∧ ¬ c.WellFormed ∧ step s = .refused (.illFormedConfig c.maxsens) := by
  cases h : s.script with
  | nil => exact .inl ⟨rfl, by simp [step, hostStep, h]⟩
  | cons a rest =>
    match a with
    | .bus (.read i) => exact .inr (.inl ⟨i, rest, rfl, by simp [step, hostStep, h, present]⟩)
    | .bus (.write i v) => exact .inr (.inr (.inl ⟨i, v, rest, rfl, by simp [step, hostStep, h, present]⟩))
    | .reset c =>
      by_cases hc : c.WellFormed
      · exact .inr (.inr (.inr (.inl ⟨c, rest, rfl, hc, by simp [step, hostStep, h, present, hardReset, hc]⟩)))
      · exact .inr (.inr (.inr (.inr ⟨c, rest, rfl, hc, by simp [step, hostStep, h, present, hardReset, hc]⟩)))

/-- One more step of the host interface's run. -/
theorem core_run_succ (M : Host.Core) (k : Nat) (s : M.State) :
    M.run (k + 1) s =
      match M.step s with
      | .next t => M.run k t
      | .fault r => .fault r
      | .refused r => .refused r := rfl

/-- The statements' `run` is the host interface's run of this machine. -/
theorem run_eq_core_run (k : Nat) (s : State) : run k s = Host.Core.run Sys2Proof.core k s := by
  induction k generalizing s with
  | zero => rfl
  | succ k ih =>
    refine Eq.trans ?_ (core_run_succ Sys2Proof.core k s).symm
    have hs : Sys2Proof.core.step s = step s := rfl
    rw [hs, run]
    cases step s with
    | next t => exact ih t
    | fault r => rfl
    | refused r => rfl

end Sys2Proof.Machine
end

