-- ==== Sys2Proof/Tests/Slice0.lean ====
section
/-! SUPPORT. Tests of the model's own work: ill-formed terms refused, words written out from the encoding tables, one
step of each command against the vectors of spec/95_test_vectors.md, and for each statement with hypotheses a concrete
state and operands that meet them. -/

namespace Sys2Proof.Tests

open Sys2Proof.Machine

/-! ## Small states -/

/-- The state a command or a step answers. -/
def got (o : Host.Outcome State Fault Refusal) : Option State :=
  match o with
  | .next s => some s
  | .fault _ => none
  | .refused _ => none

/-- The operands `FREQ` (R23) and `CLK = 16 MHz`. -/
def withFreq (f : Word) : State := { State.reset with freq := f, clk := 0x00F42400#32 }

/-- A configured channel with top 79 (section 0 of the vectors), its compare value still 0. -/
def conf : State := { State.reset with pwmConfigured := true, pwmtop := 79#16 }

/-- A snapshot of two readings on a configured channel. -/
def snap (n : Byte) (t0 t1 : Word) : State := { conf with nsens := n, temp0 := t0, temp1 := t1 }

/-- The host presents one write. -/
def writing (i : Index) (v : Word) (s : State) : State := { s with script := [.bus (.write i v)] }

/-! ## Well-formedness: an ill-formed term for each check -/

/-- R7: `maxsens` 6 is above `NTEMP`. -/
theorem test_cfg_maxsens_6_ill_formed : ¬ ({ Cfg.tc0 with maxsens := 6#8 } : Cfg).WellFormed := by decide

theorem test_reset_act_ill_formed : (HostAct.reset { Cfg.tc0 with maxsens := 255#8 }).wellFormed = false := by decide

theorem test_reset_act_well_formed : (HostAct.reset Cfg.tc0).wellFormed = true := by decide

/-- R84: the reserved prescaler codes 0, 6, 7 are illegal operands of a well-formed TOP. -/
theorem test_top_reserved_psel :
    (Instr.top 0#3 1#1).operandLegal = false ∧ (Instr.top 6#3 0#1).operandLegal = false ∧
      (Instr.top 7#3 0#1).operandLegal = false ∧ (Instr.top 5#3 0#1).operandLegal = true := by decide

/-! ## Decoding: words written out from the tables of R81 and R82 -/

/-- `BW = 1`, `PSEL = 010`, `OP = 0001`: `CMD TOP 8, 16`. -/
theorem test_decode_top : decode 0b00000000000000000000000010100001#32 = .instr (.top 2#3 1#1) := by decide

/-- `BW = 0`, `PSEL = 101`: `CMD TOP 1024, 8`. -/
theorem test_decode_top_1024 : decode 0b00000000000000000000000001010001#32 = .instr (.top 5#3 0#1) := by decide

theorem test_decode_cmp : decode 0b00000000000000000000000000000010#32 = .instr .cmp := by decide

theorem test_decode_pwmcfg : decode 0b00000000000000000000000000000011#32 = .instr .pwmcfg := by decide

theorem test_decode_pwmduty : decode 0b00000000000000000000000000000100#32 = .instr .pwmduty := by decide

theorem test_decode_tickcfg : decode 0b00000000000000000000000000000101#32 = .instr .tickcfg := by decide

theorem test_decode_cycle : decode 0b00000000000000000000000000000110#32 = .instr .cycle := by decide

/-- Reserved opcodes, and must-be-zero bits of both formats (vectors P4 19 to 27, E5 to E7). -/
theorem test_decode_illegal :
    decode 0x00000000#32 = .illegal (.reservedOpcode 0#4) ∧ decode 0x00000007#32 = .illegal (.reservedOpcode 7#4) ∧
      decode 0x00000013#32 = .illegal (.mustBeZero "PWMCFG") ∧ decode 0x00000101#32 = .illegal (.mustBeZero "TOP") ∧
      decode 0x80000021#32 = .illegal (.mustBeZero "TOP") := by decide

theorem test_decode_table_word : decodeTableWord 32 0xB1 = some (.top 3#3 1#1) := by decide

/-! ## One step of each command, against spec/95_test_vectors.md -/

/-- T11: `x = 0.5` exactly, the tie goes up. -/
theorem test_top_tie_up : (got (exec (.top 2#3 0#1) (withFreq 0x3D090000#32))).map (fun s => (s.rtop, s.status)) =
    some (0#16, .ok) := by decide

/-- T9: `x` just above 256.5 does not fit 8 bits. -/
theorem test_top_overflow : (got (exec (.top 2#3 0#1) (withFreq 0x001E7545#32))).map (fun s => (s.rtop, s.status)) =
    some (0#16, .overflow) := by decide

/-- Q31: one third of a period of three counts. -/
theorem test_cmp_third :
    (got (exec .cmp { State.reset with topin := 2#16, pct := 0x00215555#32 })).map (fun s => (s.rcmp, s.rach)) =
      some (0#16, 0x00215555#32) := by decide

/-- Q22: the most negative request is clamped to 0 and remapped to full on. -/
theorem test_cmp_negative :
    (got (exec .cmp { State.reset with topin := 79#16, pct := 0x80000000#32 })).map (fun s => (s.rcmp, s.rach)) =
      some (79#16, 0x00640000#32) := by decide

/-- G1. -/
theorem test_pwmcfg_25kHz : (got (exec .pwmcfg (withFreq 0x0061A800#32))).map (fun s => (readReg .pwmctl s, s.trace)) =
    some (0x00000005#32, [.pwmMode 2#3, .pwmFlagClr, .pwmTop 79#16, .pwmCmp 0#16]) := by decide

/-- G2: 1 kHz is too slow; only `STATUS` changes. -/
theorem test_pwmcfg_1kHz : got (exec .pwmcfg (withFreq 0x0003E800#32)) =
    some { withFreq 0x0003E800#32 with status := .overflow } := by decide

/-- D1. -/
theorem test_pwmduty_34_5 :
    (got (exec .pwmduty { conf with pct := 0x00228000#32 })).map (fun s => (s.pwmcmp, s.rcmp, s.rach, s.trace)) =
      some (27#16, 27#16, 0x00230000#32, [.pwmCmp 27#16]) := by decide

/-- D9: an unconfigured channel. -/
theorem test_pwmduty_unconfigured : got (exec .pwmduty { State.reset with pct := 0x00320000#32 }) =
    some { State.reset with pct := 0x00320000#32, status := .notConfigured } := by decide

/-- K1. -/
theorem test_tickcfg_10Hz : (got (exec .tickcfg (withFreq 0x00000A00#32))).map (fun s => (readReg .tickctl s, s.trace)) =
    some (0x00000037#32, [.tickMode 3#3, .tickFlagClr, .tickTop 24999#16, .tickIen, .tickCntClr]) := by decide

/-- K4: 3.8125 Hz needs a top count above 65535. -/
theorem test_tickcfg_too_slow : (got (exec .tickcfg (withFreq 0x000003D0#32))).map (fun s => (s.status, s.trace)) =
    some (.overflow, []) := by decide

/-- Y4: WARM, the corrected example of the source. -/
theorem test_cycle_warm : (got (exec .cycle (snap 1#8 0x00210000#32 0#32))).map
    (fun s => (readReg .cstate s, s.dutyreq, s.pwmcmp, s.trace)) =
      some (5#32, 0x00410000#32, 51#16, [.fanEn true, .pwmCmp 51#16]) := by decide

/-- Y9: the sentinel as the least reading hides a hot one; the first ERROR cycle counts. -/
theorem test_cycle_error : (got (exec .cycle (snap 2#8 0x00280000#32 0xFF810000#32))).map
    (fun s => (readReg .cstate s, s.errcnt, s.trace)) = some (7#32, 1#8, alarm) := by decide

/-! ## One bus act -/

/-- P4, step 39: `TOPIN` keeps 16 bits. -/
theorem test_write_topin : (got (step (writing 0x03#6 0x00012345#32 State.reset))).map (readReg .topin) =
    some 0x00002345#32 := by decide

/-- P4, steps 48 and 49, as one read: a mirror. -/
theorem test_read_mirror : (got (step { State.reset with script := [.bus (.read 0x24#6)] })).map (fun s => s.reads) =
    some [0xFF810000#32] := by decide

/-- P4, step 27: a TOP word with bit 8 set is illegal, not a bad operand. -/
theorem test_illegal_command : (got (step (writing 0x1F#6 0x00000121#32 State.reset))).map (fun s => s.status) =
    some .illegalCmd := by decide

/-- R200: a reset forgets everything of HBC and latches the presented configuration. -/
theorem test_reset_act :
    got (step { conf with script := [.reset { Cfg.tc0 with sentinel := 0#32 }], trace := [.delay], errcnt := 3#8 }) =
      some (State.resetWith Params.design { Cfg.tc0 with sentinel := 0#32 }) := by decide

/-! ## Witnesses: the hypotheses of each statement are met -/

theorem witness_DecodeAndEncodeAgree :
    (Instr.top 7#3 1#1).wellFormed = true ∧ decode 0x000000F1#32 = .instr (.top 7#3 1#1) := by decide

theorem witness_LegalWordsAreTheTableRows :
    (⟨"CYCLE", 0xFFFFFFFF#32, 0x00000006#32⟩ : OpRow) ∈ opcodeRows ∧ 0x00000006#32 &&& 0xFFFFFFFF#32 = 0x00000006#32 := by
  decide

/-- A word for each clause, at the edges of the ranges: `OP` 0, 7, 15, and the lowest must-be-zero bit of each format. -/
theorem witness_CommandWordDecoding :
    (0#32 : Word).toNat % 16 = 0 ∧ 7 ≤ (0xFFFFFFF7#32 : Word).toNat % 16 ∧
      ((0x12#32 : Word).toNat % 16 = 2 ∧ (0x12#32 : Word).toNat / 16 ≠ 0) ∧
      ((0x16#32 : Word).toNat % 16 = 6 ∧ (0x16#32 : Word).toNat / 16 ≠ 0) ∧
      ((0x101#32 : Word).toNat % 16 = 1 ∧ (0x101#32 : Word).toNat / 256 ≠ 0) ∧
      ((2#32 : Word).toNat / 16 = 0 ∧ (3#32 : Word).toNat % 16 = 3 ∧ (4#32 : Word).toNat % 16 = 4) ∧
      ((5#32 : Word).toNat % 16 = 5 ∧ (6#32 : Word).toNat % 16 = 6) ∧
      ((0xFF#32 : Word).toNat / 256 = 0 ∧ (0xF1#32 : Word).toNat % 16 = 1) := by decide

theorem witness_StepRunsTheDecodedCommand :
    (writing 0x1F#6 6#32 conf).script = .bus (.write 0x1F#6 6#32) :: [] ∧ decode 6#32 = .instr .cycle := by decide

theorem witness_GivenTableWordRunsNext : decodeTableWord 32 6 = some .cycle := by decide

theorem witness_IllegalWordOnlySetsStatus :
    (writing 0x1F#6 0x101#32 conf).script = .bus (.write 0x1F#6 0x101#32) :: [] ∧ 256 ≤ (0x101#32 : Word).toNat ∧
      16 ≤ (0x12#32 : Word).toNat ∧ (0x12#32 : Word).toNat % 16 ≠ 1 ∧ (7#32 : Word).toNat % 16 = 7 ∧
      ((0xF1#32 : Word).toNat % 16 = 1 ∧ (0xF1#32 : Word).toNat < 256 ∧ (0xF1#32 : Word).toNat / 16 % 8 = 7) ∧
      (0x61#32 : Word).toNat / 16 % 8 = 6 ∧ (0x01#32 : Word).toNat / 16 % 8 = 0 := by decide

theorem witness_StepWaitsForTheHost : State.reset.script = [] := by decide

theorem witness_ResetActLatchesTheConfiguration :
    (Cfg.tc0).maxsens.toNat ≤ 5 ∧ 5 < ({ Cfg.tc0 with maxsens := 6#8 } : Cfg).maxsens.toNat ∧
      ({ conf with script := [.reset Cfg.tc0] } : State).script = .reset Cfg.tc0 :: [] := by decide

/-- A state whose next act is no reset: it serves TraceOnlyGrows, ConfigurationMirrorsAreConstant and
TickStaysArmedUntilReset; its next act is no write to `CMD` either. -/
theorem witness_next_act_is_no_reset :
    (∀ c rest, (writing 0x00#6 1#32 conf).script ≠ .reset c :: rest) ∧
      (∀ w rest, (writing 0x00#6 1#32 conf).script ≠ .bus (.write 0x1F#6 w) :: rest) := by
  constructor <;> intro _ _ h <;> simp [writing] at h

/-- An index for each clause of the register map: the first and the last reserved ones, and `CMD`. -/
theorem witness_reserved_and_named_indices :
    (0x05#6 : Index).toNat ∈ [0x05, 0x06, 0x07, 0x0D, 0x0E, 0x0F, 0x17, 0x1B] ∧ 0x26 ≤ (0x26#6 : Index).toNat ∧
      0x26 ≤ (0x3F#6 : Index).toNat ∧ regAt 0x1F#6 = some .cmd ∧
      ({ conf with script := [.bus (.read 0x05#6)] } : State).script = .bus (.read 0x05#6) :: [] ∧
      (writing 0x3F#6 1#32 conf).script = .bus (.write 0x3F#6 1#32) :: [] := by decide

theorem witness_TopCommandResult :
    (2#3 : BitVec 3).toNat = 2 ∧ ((2#3 : BitVec 3).toNat, 8) ∈ [(1, 1), (2, 8), (3, 64), (4, 256), (5, 1024)] ∧
      ((0#1 : BitVec 1).toNat, 8) ∈ [(0, 8), (1, 16)] ∧
      TopFits (withFreq 0x0061A800#32).freq.toNat (withFreq 0x0061A800#32).clk.toNat 8 8 ∧
      ¬ TopFits (withFreq 0x0003E800#32).freq.toNat (withFreq 0x0003E800#32).clk.toNat 8 8 ∧
      ((6#3 : BitVec 3).toNat = 6 ∧ (7#3 : BitVec 3).toNat = 7) := by decide

/-- T6 and T7: the last accepted quotient and the first refused one. -/
theorem witness_TopRangeCheck :
    computeTop 2000000 16000000 8 8 = .ok 255 ∧ computeTop 1992192 16000000 8 8 = .overflow ∧
      computeTop 1024000000 16000000 8 8 = .ok 0 ∧ computeTop 6400000 16000000 8 16 = .ok 79 := by decide

theorem witness_AcceptedTopIsNearest : 0 < 8 ∧ computeTop 1996109 16000000 8 8 = .ok 255 := by decide

/-- Q5 and Q25: requests at and above half a step, in the order the monotonicity clause asks. -/
theorem witness_QuantizerProperties :
    79 = (79#16 : Half).toNat ∧ 1 ≤ quantRaw 79 (0x0000A000#32 : Word).toInt ∧ 1 ≤ quantRaw 79 (0x00635FFF#32 : Word).toInt ∧
      clampedPct (0x0000A000#32 : Word).toInt ≤ clampedPct (0x00635FFF#32 : Word).toInt := by decide

/-- Q6, Q5: below half a step, exactly half a step. -/
theorem witness_RequestsBelowHalfAStepAreRemapped :
    79 ≤ 65535 ∧ 2 * (79 + 1) * clampedPct 40959 < 6553600 ∧ 2 * (79 + 1) * clampedPct 40960 = 6553600 := by decide

theorem witness_AchievedPercentIsRoundedOnce : 51 ≤ 79 ∧ (79 + 1 : Int) ∣ 6553600 * (51 + 1) := by decide

theorem witness_PwmcfgCommandResult :
    TopFits (withFreq 0x0061A800#32).freq.toNat (withFreq 0x0061A800#32).clk.toNat
        (divider (withFreq 0x0061A800#32).params.pwmPrescaler) (widthBits (withFreq 0x0061A800#32).params.pwmBits) ∧
      ¬ TopFits (withFreq 0#32).freq.toNat (withFreq 0#32).clk.toNat 8 8 := by decide

theorem witness_PwmdutyCommandResult : conf.pwmConfigured = true ∧ State.reset.pwmConfigured = false := by decide

theorem witness_TickcfgCommandResult :
    TopFits (withFreq 0x00000A00#32).freq.toNat (withFreq 0x00000A00#32).clk.toNat
        (divider (withFreq 0x00000A00#32).params.tickPrescaler) (widthBits (withFreq 0x00000A00#32).params.tickBits) ∧
      ¬ TopFits (withFreq 0x00000100#32).freq.toNat (withFreq 0x00000100#32).clk.toNat 64 16 := by decide

theorem witness_TickStaysArmedUntilReset :
    ({ conf with tickConfigured := true, tickIen := true } : State).tickConfigured = true ∧
      ({ conf with tickConfigured := true, tickIen := true } : State).tickIen = true := by decide

/-- A snapshot for each clause, at the thresholds: counts 0 and 6, the sentinel as minimum (Y8), the greatest reading at
`cfg.tmax` (Y2), one unit below it (Y3), at `tmin` (Y5), one unit below it (Y6), and the hidden sentinel (Y10). -/
theorem witness_CycleReportsTheClassifiedState :
    cycleState (snap 0#8 0#32 0#32) = .error ∧ cycleState (snap 6#8 0#32 0#32) = .error ∧
      cycleState (snap 2#8 0x00190000#32 0xFF810000#32) = .error ∧ cycleState (snap 1#8 0x0022C000#32 0#32) = .hot ∧
      cycleState (snap 1#8 0x0022BFFF#32 0#32) = .warm ∧ cycleState (snap 1#8 0x001F4000#32 0#32) = .warm ∧
      cycleState (snap 1#8 0x001F3FFF#32 0#32) = .cold ∧ cycleState (snap 2#8 0xFF7E0000#32 0xFF810000#32) = .cold := by
  decide

theorem witness_HotCycleResult :
    cycleState (snap 2#8 0x00240000#32 0x00140000#32) = .hot ∧
      (snap 2#8 0x00240000#32 0x00140000#32).pwmConfigured = true ∧
      cycleState { snap 2#8 0x00240000#32 0x00140000#32 with pwmConfigured := false } = .hot := by decide

theorem witness_WarmCycleResult :
    cycleState (snap 1#8 0x00210000#32 0#32) = .warm ∧ 2162688 ∈ usedReadings (snap 1#8 0x00210000#32 0#32) ∧
      (∀ x ∈ usedReadings (snap 1#8 0x00210000#32 0#32), x ≤ 2162688) ∧
      cycleState { snap 1#8 0x00210000#32 0#32 with pwmConfigured := false } = .warm := by decide

theorem witness_ColdCycleResult :
    cycleState (snap 1#8 0x00140000#32 0#32) = .cold ∧
      cycleState { snap 1#8 0x00140000#32 0#32 with pwmConfigured := false } = .cold := by decide

/-- The last count below the limit, and the trip. -/
theorem witness_ErrorCycleResult :
    cycleState { conf with errcnt := 4#8 } = .error ∧ (4#8 : Byte).toNat + 1 ≤ conf.cfg.maxerr.toNat ∧
      cycleState { conf with errcnt := 5#8 } = .error ∧ conf.cfg.maxerr.toNat < (5#8 : Byte).toNat + 1 := by decide

theorem witness_TripOnTheCycleAfterTheLimit : conf.nsens = 0#8 ∧ conf.errcnt = 0#8 ∧ 5 ≤ conf.cfg.maxerr.toNat := by
  decide

theorem witness_ClassificationIsMemoryless :
    (snap 1#8 1#32 2#32).cfg = ({ State.reset with nsens := 1#8, temp0 := 1#32 } : State).cfg ∧
      (snap 1#8 1#32 2#32).nsens = ({ State.reset with nsens := 1#8, temp0 := 1#32 } : State).nsens ∧
      usedReadings (snap 1#8 1#32 2#32) = usedReadings { State.reset with nsens := 1#8, temp0 := 1#32 } := by decide

/-- O1 and O2 of the vectors: a band of width 0. -/
theorem witness_EmptyBandIsNeverWarm :
    ({ snap 1#8 0x0022BFFF#32 0#32 with cfg := { Cfg.tc0 with delta := 0#32 } } : State).cfg.delta.toInt ≤ 0 ∧
      0 < (snap 1#8 0x0022BFFF#32 0#32).nsens.toNat ∧
      (snap 1#8 0x0022BFFF#32 0#32).cfg.sentinel.toInt ∉ usedReadings (snap 1#8 0x0022BFFF#32 0#32) := by decide

theorem witness_WarmDutyIsTheRamp :
    Cfg.tc0.tmax.toInt - Cfg.tc0.delta.toInt ≤ 2048000 ∧ 2048000 < Cfg.tc0.tmax.toInt ∧
      (2048000 : Int) = Cfg.tc0.tmax.toInt - Cfg.tc0.delta.toInt := by decide

theorem witness_CycleGuarantees :
    (snap 1#8 0x00210000#32 0#32).errInd = false ∧ 0 < (snap 1#8 0x00210000#32 0#32).nsens.toNat ∧
      (snap 1#8 0x00210000#32 0#32).nsens.toNat ≤ (snap 1#8 0x00210000#32 0#32).cfg.maxsens.toNat ∧
      (snap 1#8 0x00210000#32 0#32).cfg.sentinel.toInt ∉ usedReadings (snap 1#8 0x00210000#32 0#32) := by decide

/-- The state `conf` with registers that no command reads changed. -/
def disturbed : State := { conf with rach := 9#32, fanEn := true, dutyreq := 5#32, rtop := 1#16, temp4 := 3#32 }

/-- Two states that differ in registers no command reads agree on what each command reads. -/
theorem witness_CommandsDependOnlyOnTheirOperands :
    conf ≠ disturbed ∧ conf.params = disturbed.params ∧ conf.cfg = disturbed.cfg ∧ conf.freq = disturbed.freq ∧
      conf.clk = disturbed.clk ∧ conf.topin = disturbed.topin ∧ conf.pct = disturbed.pct ∧
      conf.pwmConfigured = disturbed.pwmConfigured ∧ conf.pwmtop = disturbed.pwmtop ∧ conf.nsens = disturbed.nsens ∧
      usedReadings conf = usedReadings disturbed ∧ conf.errcnt = disturbed.errcnt := by decide

/-- C1: the greatest request below half a step, exactly half a step, and both ends of the range. -/
theorem witness_OneStepBoundFailsBelowHalfAStep :
    (1 ≤ 79 ∧ 79 ≤ 65535) ∧ ((0 : Int) ≤ 40959 ∧ 2 * (79 + 1) * (40959 : Int) < 6553600) ∧
      ((6553600 : Int) ≤ 2 * (79 + 1) * 40960 ∧ (40960 : Int) ≤ 6553600) ∧
      ((6553600 : Int) ≤ 2 * (1 + 1) * 6553600 ∧ 2 * (65535 + 1) * (0 : Int) < 6553600) := by decide

theorem witness_PseudoInstructionExpansions : ([] : List Word).length = 0 ∧ 5 < (List.replicate 6 (0#32 : Word)).length := by
  decide

/-- A running state that meets both invariants: the channel configured and a duty in force, as its trace tells. -/
def running : State :=
  { State.reset with
    pwmConfigured := true, pwmtop := 79#16, pwmcmp := 27#16, rcmp := 27#16, rach := 0x00230000#32, fanEn := true
    trace := [.pwmMode 2#3, .pwmFlagClr, .pwmTop 79#16, .pwmCmp 0#16, .fanEn true, .pwmCmp 27#16] }

theorem witness_RegisterInvariantKeptByEveryStep : RegisterInvariant running :=
  ⟨by decide, by decide, by decide, by decide, by decide, by decide, by decide⟩

theorem witness_TraceMirrorKeptByEveryStep : TraceMirror running :=
  ⟨by decide, by decide, by decide, by decide, by decide, by decide, by decide, by decide, by decide⟩

end Sys2Proof.Tests
end

/-! ## Bounds of the shared arithmetic (R101 to R108) -/

namespace Sys2Proof.Machine

/-- The remap of R107 lands on the top count itself, so no compare value is above it (R106). -/
theorem compareValue_le (T : Nat) (p : Int) : compareValue T p ≤ T := by
  have ⟨_, hraw⟩ := rawCount_mem T p
  rcases compareValue_cases T p with ⟨_, hc⟩ | ⟨_, hc⟩ <;> omega

/-- R108: a compare value of the period is achieved between 0 and 100 %. -/
theorem achieved_mem {T c : Nat} (hc : c ≤ T) : 0 ≤ achieved T c ∧ achieved T c ≤ HUNDRED := by
  have hd : (0 : Int) < T + 1 := by omega
  constructor
  · calc (0 : Int) = rnd (0 * (T + 1)) (T + 1) := (rnd_mul_self 0 _ hd).symm
      _ ≤ achieved T c := rnd_mono hd (by unfold HUNDRED; omega)
  · calc achieved T c ≤ rnd (HUNDRED * (T + 1)) (T + 1) := rnd_mono hd (by unfold HUNDRED; omega)
      _ = HUNDRED := rnd_mul_self _ _ hd

/-- R103: an accepted top count fits a counter of `b` bits. -/
theorem computeTop_le {F C P b n : Nat} (h : computeTop F C P b = .ok n) : n ≤ 2 ^ b - 1 := by
  rw [computeTop_eq] at h
  split at h
  case isTrue hfits =>
    obtain ⟨_, _, hle⟩ := hfits
    cases h
    omega
  case isFalse => cases h

/-- A percentage keeps its value in the FX container (R9). -/
theorem fxWord_toInt_of_mem {r : Int} (h0 : 0 ≤ r) (h100 : r ≤ HUNDRED) : (fxWord r).toInt = r := by
  unfold HUNDRED at h100
  rw [fxWord, BitVec.toInt_ofInt]
  exact Int.bmod_eq_of_le (by omega) (by omega)

/-- Storing a number in a register of `w` bits never makes it larger. -/
theorem ofNat_toNat_le {w n m : Nat} (h : n ≤ m) : (BitVec.ofNat w n).toNat ≤ m :=
  (BitVec.toNat_ofNat .. ▸ Nat.mod_le _ _).trans h

/-! ## The register map's special indices and words -/

/-- R61: `CMD` stands at one index only. -/
theorem eq_cmdIndex_of_regAt {i : Index} : regAt i = some .cmd → i = 0x1F#6 := by
  revert i; decide

/-- R43: no register stands at a reserved index. -/
theorem regAt_reserved {i : Index} :
    i.toNat ∈ [0x05, 0x06, 0x07, 0x0D, 0x0E, 0x0F, 0x17, 0x1B] ∨ 0x26 ≤ i.toNat → regAt i = none := by
  revert i; decide

/-- R35: the fields of `PWMCTL` by their weights. -/
theorem pwmctlWord_toNat (p : Params) (configured : Bool) :
    (pwmctlWord p configured).toNat =
      configured.toNat + 2 * (prescCode p.pwmPrescaler).toNat + 16 * (widthCode p.pwmBits).toNat := by
  unfold pwmctlWord
  generalize prescCode p.pwmPrescaler = psel, widthCode p.pwmBits = bw
  revert psel bw configured; decide

/-- R38: the fields of `TICKCTL` by their weights. -/
theorem tickctlWord_toNat (p : Params) (configured ien : Bool) :
    (tickctlWord p configured ien).toNat =
      configured.toNat + 2 * (prescCode p.tickPrescaler).toNat + 16 * (widthCode p.tickBits).toNat +
        32 * ien.toNat := by
  unfold tickctlWord
  generalize prescCode p.tickPrescaler = psel, widthCode p.tickBits = bw
  revert psel bw configured ien; decide

/-! ## One step by the act the host presents -/

theorem step_of_read {s : State} {i : Index} {rest : List HostAct} (hs : s.script = .bus (.read i) :: rest) :
    step s = .next (busRead i (withScript rest s)) := by
  rw [step, hostStep, hs]; rfl

theorem step_of_write {s : State} {i : Index} {v : Word} {rest : List HostAct}
    (hs : s.script = .bus (.write i v) :: rest) : step s = busWrite i v (withScript rest s) := by
  rw [step, hostStep, hs]; rfl

theorem step_of_reset {s : State} {c : Cfg} {rest : List HostAct} (hs : s.script = .reset c :: rest) :
    step s = hardReset c (withScript rest s) := by
  rw [step, hostStep, hs]; rfl

/-- R43: what the host reads where no register stands. -/
theorem readIndex_of_regAt_none {i : Index} (hi : regAt i = none) (s : State) : readIndex i s = 0#32 := by
  rw [readIndex, hi]

/-- R43: a write where no register stands. -/
theorem busWrite_of_regAt_none {i : Index} (hi : regAt i = none) (v : Word) (s : State) :
    busWrite i v s = .next s := by
  rw [busWrite, hi]

/-! ## What a command tells the outside, and what its registers then show -/

/-- The outputs as the channel and pin registers show them (R35 to R40): the side of `TraceMirror` that is not the
trace, see `traceMirror_iff`. -/
def shownOutputs (s : State) : Outputs where
  pwmMode := if s.pwmConfigured then some (prescCode s.params.pwmPrescaler) else none
  pwmTop := s.pwmtop
  pwmCmp := s.pwmcmp
  tickMode := if s.tickConfigured then some (prescCode s.params.tickPrescaler) else none
  tickTop := s.ticktop
  tickArmed := s.tickIen
  fan := s.fanEn
  err := s.errInd

theorem traceMirror_iff (s : State) :
    TraceMirror s ↔ outputsOf s.trace = shownOutputs s ∧ s.errInd = false := by
  constructor
  · intro h
    refine ⟨?_, h.errLow⟩
    rw [Outputs.mk.injEq]
    exact ⟨h.pwmMode, h.pwmTop, h.pwmCmp, h.tickMode, h.tickTop, h.tickArmed, h.fan, h.err⟩
  · rintro ⟨h, herr⟩
    exact
      { pwmMode := congrArg Outputs.pwmMode h, pwmTop := congrArg Outputs.pwmTop h
        pwmCmp := congrArg Outputs.pwmCmp h, tickMode := congrArg Outputs.tickMode h
        tickTop := congrArg Outputs.tickTop h, tickArmed := congrArg Outputs.tickArmed h
        fan := congrArg Outputs.fan h, err := congrArg Outputs.err h, errLow := herr }

/-- From `s` to `t` the events `es` were told, and the registers followed them: the diagram that commutes for every
command, while parameters and `cfg` stay the same and an error indicator that was low ends low (R50, R51, R164). -/
structure Tells (es : List OutEvent) (s t : State) : Prop where
  params : t.params = s.params
  cfg : t.cfg = s.cfg
  trace : t.trace = s.trace ++ es
  shown : shownOutputs t = es.foldl Outputs.tell (shownOutputs s)
  errLow : s.errInd = false → t.errInd = false

theorem Tells.trans {es fs : List OutEvent} {s t u : State} (h : Tells es s t) (h' : Tells fs t u) :
    Tells (es ++ fs) s u where
  params := h'.params.trans h.params
  cfg := h'.cfg.trans h.cfg
  trace := by rw [h'.trace, h.trace, List.append_assoc]
  shown := by rw [h'.shown, h.shown, List.foldl_append]
  errLow := h'.errLow ∘ h.errLow

/-- An update of registers that mirror no output tells nothing. -/
theorem Tells.silent {s t : State} (hparams : t.params = s.params) (hcfg : t.cfg = s.cfg) (htrace : t.trace = s.trace)
    (hshown : shownOutputs t = shownOutputs s) : Tells [] s t where
  params := hparams
  cfg := hcfg
  trace := by rw [htrace, List.append_nil]
  shown := hshown
  errLow := (congrArg Outputs.err hshown).trans

theorem Tells.traceMirror {es : List OutEvent} {s t : State} (h : Tells es s t) (hs : TraceMirror s) :
    TraceMirror t := by
  rw [traceMirror_iff] at hs ⊢
  obtain ⟨hmirror, hlow⟩ := hs
  refine ⟨?_, h.errLow hlow⟩
  calc outputsOf t.trace = es.foldl Outputs.tell (outputsOf s.trace) := by
        rw [h.trace, outputsOf, List.foldl_append]; rfl
    _ = shownOutputs t := by rw [hmirror, h.shown]

theorem tells_raise (code : StatusCode) (s : State) : Tells [] s (raise code s) := .silent rfl rfl rfl rfl

theorem tells_withScript (rest : List HostAct) (s : State) : Tells [] s (withScript rest s) := .silent rfl rfl rfl rfl

theorem tells_busRead (i : Index) (s : State) : Tells [] s (busRead i s) := .silent rfl rfl rfl rfl

theorem tells_storeReg (r : RegName) (v : Word) (s : State) : Tells [] s (storeReg r v s) := by
  rw [storeReg_frame]; exact .silent rfl rfl rfl rfl

/-- PWMCFG's actions as one update (R120, R121). -/
theorem configurePwm_eq (top : Half) (s : State) :
    configurePwm top s =
      { s with
        pwmConfigured := true, pwmtop := top, pwmcmp := 0#16
        trace := s.trace ++
          [.pwmMode (prescCode s.params.pwmPrescaler), .pwmFlagClr, .pwmTop top, .pwmCmp 0#16] } := by
  simp [configurePwm, setPwmConfigured, drivePwmCmp, drivePwmTop, emit]

/-- TICKCFG's actions as one update (R140, R142). -/
theorem configureTick_eq (top : Half) (s : State) :
    configureTick top s =
      { s with
        tickConfigured := true, ticktop := top, tickIen := true
        trace := s.trace ++
          [.tickMode (prescCode s.params.tickPrescaler), .tickFlagClr, .tickTop top, .tickIen, .tickCntClr] } := by
  simp [configureTick, setTickConfigured, armTick, driveTickTop, emit]

/-- R120, R121: the mode and the flag `CONFIGURED` agree once all the events are told. -/
theorem tells_configurePwm (top : Half) (s : State) :
    Tells [.pwmMode (prescCode s.params.pwmPrescaler), .pwmFlagClr, .pwmTop top, .pwmCmp 0#16] s
      (configurePwm top s) := by
  rw [configurePwm_eq]; exact ⟨rfl, rfl, rfl, rfl, id⟩

/-- R140, R142. -/
theorem tells_configureTick (top : Half) (s : State) :
    Tells [.tickMode (prescCode s.params.tickPrescaler), .tickFlagClr, .tickTop top, .tickIen, .tickCntClr] s
      (configureTick top s) := by
  rw [configureTick_eq]; exact ⟨rfl, rfl, rfl, rfl, id⟩

theorem tells_driveFan (b : Bool) (s : State) : Tells [.fanEn b] s (driveFan b s) := ⟨rfl, rfl, rfl, rfl, id⟩

theorem tells_driveDuty (p : Int) (s : State) :
    Tells [.pwmCmp (BitVec.ofNat 16 (compareValue s.pwmtop.toNat p))] s (driveDuty p s) := by
  rw [driveDuty_eq]; exact ⟨rfl, rfl, rfl, rfl, id⟩

theorem applyDuty_tells (d : Int) (s : State) : ∃ es, Tells es s (applyDuty d s).1 := by
  have hreq : Tells [] s (setDutyreq (fxWord d) s) := .silent rfl rfl rfl rfl
  rcases applyDuty_cases d s with ⟨_, h⟩ | ⟨_, h⟩ <;> rw [h]
  · exact ⟨_, hreq.trans (tells_driveDuty d _)⟩
  · exact ⟨_, hreq⟩

theorem countError_tells (s : State) : ∃ es, Tells es s (countError s) := by
  rcases countError_cases s with ⟨_, h⟩ | ⟨_, h⟩ <;> rw [h]
  · exact ⟨[.fanEn false], rfl, rfl, rfl, rfl, id⟩
  · exact ⟨[], .silent rfl rfl rfl rfl⟩

/-- R164: the pulses raise the indicator and leave it low. -/
theorem tells_pulses (s : State) : Tells alarm s (pulses PULSES s) := by
  rw [pulses_eq]; exact ⟨rfl, rfl, rfl, rfl, fun _ => rfl⟩

theorem act_tells (st : ControlState) (s : State) : ∃ es, Tells es s (act st s).1 := by
  rcases act_cases st s with ⟨_, h⟩ | ⟨d, b, _, _, h⟩ <;> rw [h]
  · obtain ⟨es, hcount⟩ := countError_tells s
    exact ⟨_, hcount.trans (tells_pulses _)⟩
  · have hcleared : Tells [] s (setErrcnt 0#8 s) := .silent rfl rfl rfl rfl
    obtain ⟨es, hduty⟩ := applyDuty_tells d (driveFan b (setErrcnt 0#8 s))
    exact ⟨_, (hcleared.trans (tells_driveFan b _)).trans hduty⟩

/-- The report and the consumption of the snapshot are no output (R150, R168). -/
theorem tells_finishCycle (st : ControlState) (r : State × StatusCode) : Tells [] r.1 (finishCycle st r) :=
  .silent rfl rfl rfl rfl

/-- Every command completes (R182), and its registers follow what it tells. -/
theorem exec_tells (i : Instr) (s : State) : ∃ t es, exec i s = .next t ∧ Tells es s t := by
  cases i with
  | top psel bw =>
    rcases execTop_cases psel bw s with ⟨_, h⟩ | ⟨_, _, _, h⟩ | ⟨_, _, _, _, h⟩
    · exact ⟨_, _, h, tells_raise _ s⟩
    · exact ⟨_, _, h, tells_raise _ s⟩
    · exact ⟨_, [], h, .silent rfl rfl rfl rfl⟩
  | cmp => exact ⟨_, [], rfl, .silent rfl rfl rfl rfl⟩
  | pwmcfg =>
    rcases execPwmcfg_cases s with ⟨_, h⟩ | ⟨top, _, h⟩
    · exact ⟨_, _, h, tells_raise _ s⟩
    · exact ⟨_, _, h, (tells_configurePwm _ s).trans (tells_raise _ _)⟩
  | pwmduty =>
    rcases execPwmduty_cases s with ⟨_, h⟩ | ⟨_, h⟩
    · exact ⟨_, _, h, tells_raise _ s⟩
    · exact ⟨_, _, h, (tells_driveDuty _ s).trans (tells_raise _ _)⟩
  | tickcfg =>
    rcases execTickcfg_cases s with ⟨_, h⟩ | ⟨top, _, h⟩
    · exact ⟨_, _, h, tells_raise _ s⟩
    · exact ⟨_, _, h, (tells_configureTick _ s).trans (tells_raise _ _)⟩
  | cycle =>
    obtain ⟨es, hact⟩ := act_tells (cycleState s) s
    exact ⟨_, _, exec_cycle s, hact.trans (tells_finishCycle _ _)⟩

theorem runCommand_tells (w : Word) (s : State) : ∃ t es, runCommand w s = .next t ∧ Tells es s t := by
  rcases runCommand_cases w s with ⟨i, _, h⟩ | ⟨_, _, h⟩ <;> rw [h]
  · exact exec_tells i s
  · exact ⟨_, _, rfl, tells_raise _ s⟩

theorem busWrite_tells (i : Index) (v : Word) (s : State) :
    ∃ t es, busWrite i v s = .next t ∧ Tells es s t ∧ (i ≠ 0x1F#6 → es = []) := by
  rcases busWrite_cases i v s with ⟨_, h⟩ | ⟨hi, h⟩ | ⟨r, _, _, h⟩ <;> rw [h]
  · exact ⟨s, [], rfl, .silent rfl rfl rfl rfl, fun _ => rfl⟩
  · obtain ⟨t, es, ht, htells⟩ := runCommand_tells v s
    exact ⟨t, es, ht, htells, fun hne => absurd (eq_cmdIndex_of_regAt hi) hne⟩
  · exact ⟨_, [], rfl, tells_storeReg r v s, fun _ => rfl⟩

/-- A step that is no reset completes, and tells something only at a write to `CMD` (R50, R62, R63). -/
theorem step_tells (s : State) (hreset : ∀ c rest, s.script ≠ .reset c :: rest) :
    ∃ t es, step s = .next t ∧ Tells es s t ∧
      ((∀ w rest, s.script ≠ .bus (.write 0x1F#6 w) :: rest) → es = []) := by
  rcases step_cases s with ⟨_, h⟩ | ⟨i, rest, _, h⟩ | ⟨i, v, rest, hs, h⟩ | ⟨c, rest, hs, _⟩ | ⟨c, rest, hs, _⟩
  · exact ⟨s, [], h, .silent rfl rfl rfl rfl, fun _ => rfl⟩
  · exact ⟨_, _, h, (tells_withScript rest s).trans (tells_busRead i _), fun _ => rfl⟩
  · obtain ⟨t, es, ht, htells, hcmd⟩ := busWrite_tells i v (withScript rest s)
    refine ⟨t, es, h.trans ht, (tells_withScript rest s).trans htells, fun hnot => hcmd ?_⟩
    rintro rfl
    exact hnot v rest hs
  · exact absurd hs (hreset c rest)
  · exact absurd hs (hreset c rest)

/-- What a step that answers can be: told events, or a reset (R60, R200). -/
theorem step_tells_or_resets {s t : State} (h : step s = .next t) :
    (∃ es, Tells es s t) ∨ ∃ c rest, t = { State.resetWith s.params c with script := rest } := by
  by_cases hreset : ∀ c rest, s.script ≠ .reset c :: rest
  · obtain ⟨u, es, hu, htells, _⟩ := step_tells s hreset
    cases h.symm.trans hu
    exact .inl ⟨es, htells⟩
  · push Not at hreset
    obtain ⟨c, rest, hs⟩ := hreset
    rw [step_of_reset hs, hardReset] at h
    split at h <;> cases h
    exact .inr ⟨c, rest, rfl⟩

/-! ## The invariant of R44, operation by operation -/

/-- R44 (e), for the achieved percentage of any quantized request. -/
theorem achieved_toInt_mem (T : Nat) (p : Int) :
    0 ≤ (fxWord (achieved T (compareValue T p))).toInt ∧
      (fxWord (achieved T (compareValue T p))).toInt ≤ 6553600 := by
  have ⟨h0, h100⟩ := achieved_mem (compareValue_le T p)
  rw [fxWord_toInt_of_mem h0 h100]
  exact ⟨h0, h100⟩

namespace RegisterInvariant

variable {s : State}

theorem raise (h : RegisterInvariant s) (code : StatusCode) : RegisterInvariant (raise code s) := { h with }

theorem withScript (h : RegisterInvariant s) (rest : List HostAct) : RegisterInvariant (withScript rest s) :=
  { h with }

theorem busRead (h : RegisterInvariant s) (i : Index) : RegisterInvariant (busRead i s) := { h with }

theorem storeReg (h : RegisterInvariant s) (r : RegName) (v : Word) : RegisterInvariant (storeReg r v s) := by
  rw [storeReg_frame]; exact { h with }

theorem setErrcnt (h : RegisterInvariant s) {e : Byte} (he : e.toNat ≤ s.cfg.maxerr.toNat) :
    RegisterInvariant (setErrcnt e s) :=
  { h with errcnt := he }

/-- The two result registers of CMP, PWMDUTY and CYCLE. -/
theorem setQuantized (h : RegisterInvariant s) (T : Nat) (p : Int) (c : Half) :
    RegisterInvariant (setQuantized c (fxWord (achieved T (compareValue T p))) s) :=
  { h with rcmp := Nat.le_of_lt_succ c.isLt, rach := achieved_toInt_mem T p }

theorem driveDuty (h : RegisterInvariant s) (p : Int) : RegisterInvariant (driveDuty p s) := by
  have hcmp : RegisterInvariant (drivePwmCmp (BitVec.ofNat 16 (compareValue s.pwmtop.toNat p)) s) :=
    { h with pwmCmp := ofNat_toNat_le (compareValue_le _ p) }
  exact hcmp.setQuantized _ p _

theorem configurePwm (h : RegisterInvariant s) {top : Nat} (htop : top ≤ 2 ^ widthBits s.params.pwmBits - 1) :
    RegisterInvariant (configurePwm (BitVec.ofNat 16 top) s) := by
  rw [configurePwm_eq]
  exact { h with pwmTop := fun _ => ofNat_toNat_le htop, pwmCmp := Nat.zero_le _ }

theorem configureTick (h : RegisterInvariant s) {top : Nat} (htop : top ≤ 2 ^ widthBits s.params.tickBits - 1) :
    RegisterInvariant (configureTick (BitVec.ofNat 16 top) s) := by
  rw [configureTick_eq]
  exact { h with tickTop := fun _ => ofNat_toNat_le htop, armed := rfl }

theorem applyDuty (h : RegisterInvariant s) (d : Int) : RegisterInvariant (applyDuty d s).1 := by
  have hreq : RegisterInvariant (setDutyreq (fxWord d) s) := { h with }
  rcases applyDuty_cases d s with ⟨_, e⟩ | ⟨_, e⟩ <;> rw [e]
  · exact hreq.driveDuty d
  · exact hreq

/-- R163: the counter trips before it passes `cfg.maxerr`. -/
theorem countError (h : RegisterInvariant s) : RegisterInvariant (countError s) := by
  rcases countError_cases s with ⟨_, e⟩ | ⟨hle, e⟩ <;> rw [e]
  · exact { h with errcnt := Nat.zero_le _ }
  · exact { h with errcnt := ofNat_toNat_le hle }

theorem act (h : RegisterInvariant s) (st : ControlState) : RegisterInvariant (act st s).1 := by
  rcases act_cases st s with ⟨_, e⟩ | ⟨d, b, _, _, e⟩ <;> rw [e]
  · rw [actError, pulses_eq]
    exact { h.countError with }
  · have hfan : RegisterInvariant (driveFan b (Machine.setErrcnt 0#8 s)) := { h.setErrcnt (Nat.zero_le _) with }
    exact hfan.applyDuty d

theorem finishCycle {r : State × StatusCode} (h : RegisterInvariant r.1) (st : ControlState) :
    RegisterInvariant (finishCycle st r) :=
  { h with }

theorem exec (h : RegisterInvariant s) (i : Instr) {t : State} (ht : exec i s = .next t) : RegisterInvariant t := by
  cases i with
  | top psel bw =>
    rcases execTop_cases psel bw s with ⟨_, e⟩ | ⟨_, _, _, e⟩ | ⟨_, _, _, _, e⟩ <;> cases ht.symm.trans e
    · exact h.raise _
    · exact h.raise _
    · exact { h with }
  | cmp =>
    cases ht
    exact (h.setQuantized (opT s) (opP s) _).raise _
  | pwmcfg =>
    rcases execPwmcfg_cases s with ⟨_, e⟩ | ⟨top, htop, e⟩ <;> cases ht.symm.trans e
    · exact h.raise _
    · exact (h.configurePwm (computeTop_le htop)).raise _
  | pwmduty =>
    rcases execPwmduty_cases s with ⟨_, e⟩ | ⟨_, e⟩ <;> cases ht.symm.trans e
    · exact h.raise _
    · exact (h.driveDuty _).raise _
  | tickcfg =>
    rcases execTickcfg_cases s with ⟨_, e⟩ | ⟨top, htop, e⟩ <;> cases ht.symm.trans e
    · exact h.raise _
    · exact (h.configureTick (computeTop_le htop)).raise _
  | cycle =>
    cases (exec_cycle s).symm.trans ht
    exact (h.act _).finishCycle _

theorem busWrite (h : RegisterInvariant s) (i : Index) (v : Word) {t : State} (ht : busWrite i v s = .next t) :
    RegisterInvariant t := by
  rcases busWrite_cases i v s with ⟨_, e⟩ | ⟨_, e⟩ | ⟨r, _, _, e⟩ <;> rw [e] at ht
  · cases ht
    exact h
  · rcases runCommand_cases v s with ⟨i, _, e⟩ | ⟨_, _, e⟩ <;> rw [e] at ht
    · exact h.exec i ht
    · cases ht
      exact h.raise _
  · cases ht
    exact h.storeReg r v

end RegisterInvariant

/-- R52: every register of R44 is zero after reset. -/
theorem registerInvariant_resetWith (p : Params) (c : Cfg) : RegisterInvariant (State.resetWith p c) where
  pwmTop := by simp [State.resetWith]
  pwmCmp := by simp [State.resetWith]
  tickTop := by simp [State.resetWith]
  errcnt := Nat.zero_le _
  rcmp := Nat.zero_le _
  rach := by simp [State.resetWith]
  armed := rfl

theorem RegisterInvariant.step {s t : State} (h : RegisterInvariant s) (ht : step s = .next t) :
    RegisterInvariant t := by
  rcases step_cases s with ⟨_, e⟩ | ⟨i, rest, _, e⟩ | ⟨i, v, rest, _, e⟩ | ⟨c, rest, _, _, e⟩ | ⟨c, rest, _, _, e⟩ <;>
    rw [e] at ht
  · cases ht
    exact h
  · cases ht
    exact (h.withScript rest).busRead i
  · exact (h.withScript rest).busWrite i v ht
  · cases ht
    exact { registerInvariant_resetWith s.params c with }
  · cases ht

/-- The induction over a run, once for every invariant. -/
theorem run_keeps {P : State → Prop} (hstep : ∀ s t, P s → step s = .next t → P t) (k : Nat) {s t : State}
    (hs : P s) (h : run k s = .next t) : P t := by
  induction k generalizing s with
  | zero =>
    cases h
    exact hs
  | succ k ih =>
    rw [run] at h
    split at h
    case h_1 u hu => exact ih (hstep s u hs hu) h
    all_goals cases h

theorem traceMirror_resetWith (p : Params) (c : Cfg) : TraceMirror (State.resetWith p c) :=
  (traceMirror_iff _).2 ⟨rfl, rfl⟩

/-! ## The obligations -/

/-- Settles O49: each operation keeps R44, so does a step, and a run by induction on its length. -/
theorem registerInvariantKeptByEveryStep : Obligations.RegisterInvariantKeptByEveryStep := by
  refine ⟨fun s t hs ht => hs.step ht, fun p c acts k t ht => ?_⟩
  have hreset : RegisterInvariant { State.resetWith p c with script := acts } :=
    (registerInvariant_resetWith p c).withScript acts
  exact run_keeps (fun _ _ hs => hs.step) k hreset ht

/-- Settles O50: the registers follow what a command tells, and after a reset both are at the start. -/
theorem traceMirrorKeptByEveryStep : Obligations.TraceMirrorKeptByEveryStep := by
  intro s t hs ht
  rcases step_tells_or_resets ht with ⟨es, htells⟩ | ⟨c, rest, rfl⟩
  · exact htells.traceMirror hs
  · exact (tells_withScript rest _).traceMirror (traceMirror_resetWith s.params c)

/-- Settles O11. -/
theorem traceOnlyGrows : Obligations.TraceOnlyGrows := by
  intro s hreset
  obtain ⟨t, es, ht, htells, hcmd⟩ := step_tells s hreset
  exact ⟨t, es, ht, htells.trace, hcmd⟩

/-- Settles O16: the mirrors are read from `cfg`, which no command and no store reaches. -/
theorem configurationMirrorsAreConstant : Obligations.ConfigurationMirrorsAreConstant := by
  intro s hreset
  obtain ⟨t, _, ht, htells, _⟩ := step_tells s hreset
  refine ⟨t, ht, htells.cfg, htells.params, ?_⟩
  rw [← htells.cfg]
  exact ⟨rfl, rfl, rfl, BitVec.toNat_setWidth_of_le (by decide), rfl, BitVec.toNat_setWidth_of_le (by decide)⟩

/-- Settles O12. -/
theorem resetValues : Obligations.ResetValues := by
  refine ⟨fun p c => ⟨?_, ?_, ?_, ?_, rfl, rfl, rfl, rfl, ?_, ?_, rfl⟩, fun _ => ⟨?_, ?_⟩⟩
  · simp [readReg, State.resetWith, statusWord, statusBits, cstateWord, pinsWord, bit]
  · simp [readReg, State.resetWith]
  · simp [readReg, State.resetWith, pwmctlWord_toNat]
  · simp [readReg, State.resetWith, tickctlWord_toNat]
  · exact BitVec.toNat_setWidth_of_le (by decide)
  · exact BitVec.toNat_setWidth_of_le (by decide)
  · exact (by decide : pwmctlWord Params.design false = 0x00000004#32)
  · exact (by decide : tickctlWord Params.design false false = 0x00000016#32)

/-- Settles O15: both bus operations find no register at a reserved index. -/
theorem reservedIndicesReadZeroAndIgnoreWrites : Obligations.ReservedIndicesReadZeroAndIgnoreWrites := by
  intro s i v rest hi
  have hnone : regAt i = none := regAt_reserved hi
  refine ⟨fun hs => ?_, fun hs => ?_⟩
  · rw [step_of_read hs, busRead, readIndex_of_regAt_none hnone]; rfl
  · rw [step_of_write hs, busWrite_of_regAt_none hnone]; rfl

/-- Settles O48. -/
theorem invariantsHoldAfterReset : Obligations.InvariantsHoldAfterReset :=
  fun p c => ⟨registerInvariant_resetWith p c, traceMirror_resetWith p c⟩

end Sys2Proof.Machine

/-! ## The register map as a bijection (R61), and what a register word reads as (R62) -/

namespace Sys2Proof.Machine

/-- R61: each register stands at its own index. -/
theorem regAt_indexOf (r : RegName) : regAt (indexOf r) = some r := by
  cases r <;> rfl

/-- R61: an index holds no register but the one whose index it is; all 64 indices are inspected. -/
theorem eq_indexOf_of_regAt {i : Index} {r : RegName} (h : regAt i = some r) : i = indexOf r := by
  have hall : ∀ i : Index, ∀ r ∈ regAt i, i = indexOf r := by decide
  exact hall i r h

/-- R43: a reserved index differs from every index that holds a register. -/
theorem ne_of_regAt_none {i : Index} (hi : regAt i = none) (k : Index) (hk : (regAt k).isSome) : i ≠ k := by
  rintro rfl
  rw [hi] at hk
  cases hk

theorem readIndex_indexOf (r : RegName) (s : State) : readIndex (indexOf r) s = readReg r s := by
  rw [readIndex, regAt_indexOf]

/-- No register shows the host's script (log 1). -/
@[simp] theorem readReg_withScript (r : RegName) (rest : List HostAct) (s : State) :
    readReg r (withScript rest s) = readReg r s := by
  cases r <;> rfl

@[simp] theorem readIndex_withScript (i : Index) (rest : List HostAct) (s : State) :
    readIndex i (withScript rest s) = readIndex i s := by
  cases hi : regAt i with
  | none => rw [readIndex_of_regAt_none hi, readIndex_of_regAt_none hi]
  | some r => rw [eq_indexOf_of_regAt hi, readIndex_indexOf, readIndex_indexOf, readReg_withScript]

/-- R28: the bits above the status code read as zero. -/
theorem statusWord_toNat (c : StatusCode) : (statusWord c).toNat = (statusBits c).toNat :=
  BitVec.toNat_setWidth_of_le (by decide)

/-- R32: `VALID` weighs 4 over the state code. -/
theorem cstateWord_some_toNat (st : ControlState) : (cstateWord (some st)).toNat = 4 + (stateBits st).toNat := by
  cases st <;> rfl

/-- R40: the two pins by their weights. -/
theorem pinsWord_toNat (fan err : Bool) : (pinsWord fan err).toNat = fan.toNat + 2 * err.toNat := by
  revert fan err; decide

/-- R63: a field that keeps the low `n` bits of a written word keeps its residue. -/
theorem setWidth_eq_ofNat_mod (n : Nat) (v : Word) : v.setWidth n = BitVec.ofNat n (v.toNat % 2 ^ n) := by
  apply BitVec.eq_of_toNat_eq
  simp

/-! ## A command word written to `CMD` (R80) -/

theorem runCommand_of_decode {w : Word} {i : Instr} (h : decode w = .instr i) (s : State) :
    runCommand w s = exec i s := by
  rw [runCommand, h]

theorem busWrite_cmd (w : Word) (s : State) : busWrite (indexOf .cmd) w s = runCommand w s := by
  rw [busWrite, regAt_indexOf]

/-- R60, R80: the step of an act that issues a command word. -/
theorem step_of_commandAct {s : State} {w : Word} {rest : List HostAct} (hs : s.script = commandAct w :: rest) :
    step s = runCommand w (withScript rest s) := by
  rw [step_of_write hs, busWrite_cmd]

/-- Taking the act that `withFetchWord` presents restores the state it was given to. -/
theorem step_withFetchWord (s : State) (nbits w : Nat) :
    step (s.withFetchWord nbits w) = runCommand (tableWord nbits w) s :=
  step_of_commandAct (s := s.withFetchWord nbits w) rfl

theorem decode_of_decodeTableWord {nbits w : Nat} {i : Instr} (h : decodeTableWord nbits w = some i) :
    decode (tableWord nbits w) = .instr i := by
  rw [decodeTableWord] at h
  split at h
  case h_1 j hj =>
    cases h
    exact hj
  case h_2 => cases h

/-! ## The obligations on the bus -/

/-- Settles O14: at a reserved index the write meets none of the named indices, at `CMD` it runs the word, and at the
index of any other register it is that register's store. -/
theorem busWriteByAccessClass : Obligations.BusWriteByAccessClass := by
  intro s i v rest hs
  rw [step_of_write hs]
  rcases busWrite_cases i v (withScript rest s) with ⟨hi, e⟩ | ⟨hi, e⟩ | ⟨r, hr, hi, e⟩ <;> rw [e]
  · have hne := ne_of_regAt_none hi
    rw [if_neg (hne 0x00#6 rfl), if_neg (hne 0x01#6 rfl), if_neg (hne 0x02#6 rfl), if_neg (hne 0x03#6 rfl),
      if_neg (hne 0x04#6 rfl), if_neg (hne 0x08#6 rfl), if_neg (hne 0x09#6 rfl), if_neg (hne 0x0A#6 rfl),
      if_neg (hne 0x0B#6 rfl), if_neg (hne 0x0C#6 rfl), if_neg (hne 0x1F#6 rfl)]
    rfl
  · rw [eq_cmdIndex_of_regAt hi]
    rfl
  · rw [eq_indexOf_of_regAt hi]
    cases r with
    | cmd => exact absurd rfl hr
    | topin => rw [storeReg, setWidth_eq_ofNat_mod]; rfl
    | nsens => rw [storeReg, setWidth_eq_ofNat_mod]; rfl
    | _ => rfl

/-- Settles O5. -/
theorem stepRunsTheDecodedCommand : Obligations.StepRunsTheDecodedCommand := by
  intro s w i rest hs hw
  exact (step_of_commandAct hs).trans (runCommand_of_decode hw _)

/-- Settles O6. -/
theorem givenTableWordRunsNext : Obligations.GivenTableWordRunsNext := by
  intro s nbits w i hw
  rw [step_withFetchWord, runCommand_of_decode (decode_of_decodeTableWord hw)]

/-- Settles O13: the step is `busRead`, and the value is `readReg` of the register at the index, whose narrow fields
are zero-extended and whose words of several fields are read by weight. -/
theorem busReadReturnsTheRegister : Obligations.BusReadReturnsTheRegister := by
  refine ⟨fun s i rest hs => ?_, fun s => ?_⟩
  · rw [step_of_read hs, busRead, readIndex_withScript]
    rfl
  have zext {n : Nat} (hn : n ≤ 32) (x : BitVec n) : (x.setWidth 32).toNat = x.toNat :=
    BitVec.toNat_setWidth_of_le hn
  refine ⟨rfl, rfl, rfl, zext (by decide) s.topin, zext (by decide) s.nsens, rfl, rfl, rfl, rfl, rfl,
    statusWord_toNat s.status, zext (by decide) s.rtop, zext (by decide) s.rcmp, rfl, ?cstate,
    zext (by decide) s.errcnt, rfl, pwmctlWord_toNat s.params s.pwmConfigured, zext (by decide) s.pwmtop,
    zext (by decide) s.pwmcmp, tickctlWord_toNat s.params s.tickConfigured s.tickIen, zext (by decide) s.ticktop,
    pinsWord_toNat s.fanEn s.errInd, rfl, rfl, rfl, rfl, zext (by decide) s.cfg.maxerr, rfl,
    zext (by decide) s.cfg.maxsens, fun i hi => readIndex_of_regAt_none (regAt_reserved hi) s⟩
  change (cstateWord s.cstate).toNat = _
  cases s.cstate with
  | none => rfl
  | some st => exact cstateWord_some_toNat st

/-- Settles O17. -/
theorem registerMapIsABijection : Obligations.RegisterMapIsABijection :=
  ⟨regAt_indexOf, fun _ _ => eq_indexOf_of_regAt⟩

end Sys2Proof.Machine

/-! ## Decoding and encoding are inverse (R80, R81) -/

namespace Sys2Proof

/-- R81, format Z: a word is its opcode and the must-be-zero bits above it. -/
theorem zeroFieldZ_append_opField (w : Word) : zeroFieldZ w ++ opField w = w := by
  calc zeroFieldZ w ++ opField w = w.extractLsb' 0 32 := BitVec.extractLsb'_append_extractLsb'_eq_extractLsb' rfl
    _ = w := BitVec.extractLsb'_eq_self

/-- R81, format T: a word is its opcode, the two codes of TOP and the must-be-zero bits above them. -/
theorem zeroFieldT_append_codes (w : Word) : zeroFieldT w ++ bwField w ++ pselField w ++ opField w = w := by
  have hbw : zeroFieldT w ++ bwField w = w.extractLsb' 7 25 :=
    BitVec.extractLsb'_append_extractLsb'_eq_extractLsb' rfl
  have hpsel : w.extractLsb' 7 25 ++ pselField w = zeroFieldZ w :=
    BitVec.extractLsb'_append_extractLsb'_eq_extractLsb' rfl
  rw [hbw, hpsel, zeroFieldZ_append_opField]

theorem decodeZ_eq_instr_iff {w : Word} {i j : Instr} {mnemonic : String} :
    decodeZ w i mnemonic = .instr j ↔ zeroFieldZ w = 0#28 ∧ i = j := by
  unfold decodeZ
  split <;> simp_all

theorem decodeT_eq_instr_iff {w : Word} {j : Instr} :
    decodeT w = .instr j ↔ zeroFieldT w = 0#24 ∧ .top (pselField w) (bwField w) = j := by
  unfold decodeT
  split <;> simp_all

theorem opField_eq_ofNat {w : Word} {n : Nat} (h : (opField w).toNat = n) : opField w = BitVec.ofNat 4 n := by
  rw [← h, BitVec.ofNat_toNat, BitVec.setWidth_eq]

/-- A word that decodes in format Z has no bit but those of its opcode. -/
theorem eq_append_of_decodeZ {w : Word} {i j : Instr} {mnemonic : String} {n : Nat} (hop : (opField w).toNat = n)
    (h : decodeZ w i mnemonic = .instr j) : w = 0#28 ++ BitVec.ofNat 4 n ∧ i = j := by
  obtain ⟨hzero, hij⟩ := decodeZ_eq_instr_iff.1 h
  refine ⟨?_, hij⟩
  rw [← opField_eq_ofNat hop, ← hzero, zeroFieldZ_append_opField]

/-- A word that decodes in format T has no bit but those of its opcode and the two codes. -/
theorem eq_append_of_decodeT {w : Word} {j : Instr} (hop : (opField w).toNat = 1) (h : decodeT w = .instr j) :
    w = 0#24 ++ bwField w ++ pselField w ++ 1#4 ∧ .top (pselField w) (bwField w) = j := by
  obtain ⟨hzero, hj⟩ := decodeT_eq_instr_iff.1 h
  refine ⟨?_, hj⟩
  rw [← opField_eq_ofNat hop, ← hzero, zeroFieldT_append_codes]

/-- No bit of a command is dropped; TOP's sixteen words are inspected. -/
theorem decode_encode (i : Instr) : decode (encode i) = .instr i := by
  cases i with
  | top psel bw => revert psel bw; decide
  | _ => rfl

/-- A legal word is the word of the command it decodes to. -/
theorem eq_encode_of_decode {w : Word} {i : Instr} (h : decode w = .instr i) : w = encode i := by
  unfold decode at h
  split at h
  case h_1 hop =>
    obtain ⟨hw, rfl⟩ := eq_append_of_decodeT hop h
    exact hw
  case h_7 => cases h
  all_goals
    rename_i hop
    obtain ⟨hw, rfl⟩ := eq_append_of_decodeZ hop h
    exact hw

theorem decode_eq_instr_iff (w : Word) (i : Instr) : decode w = .instr i ↔ w = encode i :=
  ⟨eq_encode_of_decode, by rintro rfl; exact decode_encode i⟩

/-! ## The rows of the opcode table (R82) -/

/-- Every mask of the table covers the opcode. -/
theorem opField_of_row {w : Word} {r : OpRow} (hr : r ∈ opcodeRows) (h : w &&& r.mask = r.pattern) :
    opField w = opField r.pattern := by
  have hmask : ∀ r ∈ opcodeRows, opField r.mask = BitVec.allOnes 4 := by decide
  calc opField w = opField w &&& opField r.mask := by rw [hmask r hr, BitVec.and_allOnes]
    _ = opField (w &&& r.mask) := BitVec.extractLsb'_and.symm
    _ = opField r.pattern := by rw [h]

/-- The opcode tells the rows of the table apart. -/
theorem row_eq_of_opField_eq {r₁ r₂ : OpRow} (h₁ : r₁ ∈ opcodeRows) (h₂ : r₂ ∈ opcodeRows)
    (h : opField r₁.pattern = opField r₂.pattern) : r₁ = r₂ := by
  have hall : ∀ r₁ ∈ opcodeRows, ∀ r₂ ∈ opcodeRows, opField r₁.pattern = opField r₂.pattern → r₁ = r₂ := by decide
  exact hall r₁ h₁ r₂ h₂ h

/-- TOP's mask covers the opcode and the must-be-zero bits of format T. -/
theorem eq_encode_top_of_mask {w : Word} (h : w &&& 0xFFFFFF0F#32 = 0x00000001#32) :
    w = encode (.top (pselField w) (bwField w)) := by
  have hop : opField w = 1#4 := opField_of_row (r := ⟨"TOP", 0xFFFFFF0F#32, 0x00000001#32⟩) (by decide) h
  have hzero : zeroFieldT w = 0#24 :=
    calc zeroFieldT w = zeroFieldT w &&& zeroFieldT 0xFFFFFF0F#32 := BitVec.and_allOnes.symm
      _ = zeroFieldT (w &&& 0xFFFFFF0F#32) := BitVec.extractLsb'_and.symm
      _ = 0#24 := by rw [h]; rfl
  rw [encode, ← hop, ← hzero, zeroFieldT_append_codes]

/-- A mask of 32 ones asks for the pattern itself. -/
theorem eq_of_and_ones {w pattern : Word} (h : w &&& 0xFFFFFFFF#32 = pattern) : w = pattern :=
  BitVec.and_allOnes.symm.trans h

theorem exists_eq_encode_of_row {w : Word} {r : OpRow} (hr : r ∈ opcodeRows) (h : w &&& r.mask = r.pattern) :
    ∃ i, w = encode i := by
  simp only [opcodeRows, List.mem_cons, List.not_mem_nil, or_false] at hr
  rcases hr with rfl | rfl | rfl | rfl | rfl | rfl
  · exact ⟨_, eq_encode_top_of_mask h⟩
  · exact ⟨.cmp, eq_of_and_ones h⟩
  · exact ⟨.pwmcfg, eq_of_and_ones h⟩
  · exact ⟨.pwmduty, eq_of_and_ones h⟩
  · exact ⟨.tickcfg, eq_of_and_ones h⟩
  · exact ⟨.cycle, eq_of_and_ones h⟩

/-- The word of a command belongs to the command's row. -/
theorem encode_inOpcodeRow (i : Instr) : Laws.InOpcodeRow.Statement i := by
  cases i with
  | top psel bw => exact Laws.InOpcodeRow.top psel bw
  | cmp => exact Laws.InOpcodeRow.cmp
  | pwmcfg => exact Laws.InOpcodeRow.pwmcfg
  | pwmduty => exact Laws.InOpcodeRow.pwmduty
  | tickcfg => exact Laws.InOpcodeRow.tickcfg
  | cycle => exact Laws.InOpcodeRow.cycle

/-! ## Decoding by the word as a number (R80) -/

theorem decodeZ_of_zero {w : Word} (h : w.toNat / 16 = 0) (i : Instr) (mnemonic : String) :
    decodeZ w i mnemonic = .instr i :=
  if_pos ((zeroFieldZ_eq_zero_iff w).2 h)

theorem decodeZ_of_ne_zero {w : Word} (h : w.toNat / 16 ≠ 0) (i : Instr) (mnemonic : String) :
    decodeZ w i mnemonic = .illegal (.mustBeZero mnemonic) :=
  if_neg (mt (zeroFieldZ_eq_zero_iff w).1 h)

theorem decodeT_of_zero {w : Word} (h : w.toNat / 256 = 0) :
    decodeT w = .instr (.top (BitVec.ofNat 3 (w.toNat / 16 % 8)) (BitVec.ofNat 1 (w.toNat / 128 % 2))) := by
  rw [← pselField_toNat, ← bwField_toNat, BitVec.ofNat_toNat, BitVec.ofNat_toNat, BitVec.setWidth_eq,
    BitVec.setWidth_eq]
  exact if_pos ((zeroFieldT_eq_zero_iff w).2 h)

theorem decodeT_of_ne_zero {w : Word} (h : w.toNat / 256 ≠ 0) : decodeT w = .illegal (.mustBeZero "TOP") :=
  if_neg (mt (zeroFieldT_eq_zero_iff w).1 h)

/-- `OP` 0 and 7 to 15 are reserved. -/
theorem decode_of_reserved {w : Word} (h : w.toNat % 16 = 0 ∨ 7 ≤ w.toNat % 16) :
    decode w = .illegal (.reservedOpcode (opField w)) := by
  rw [decode_eq]
  split
  case h_7 => rfl
  all_goals omega

/-- `OP` 2 to 6 are the commands of format Z. -/
theorem decode_of_formatZ {w : Word} (h2 : 2 ≤ w.toNat % 16) (h6 : w.toNat % 16 ≤ 6) :
    ∃ i mnemonic, decode w = decodeZ w i mnemonic := by
  rw [decode_eq]
  generalize w.toNat % 16 = op at h2 h6
  interval_cases op
  all_goals exact ⟨_, _, rfl⟩

end Sys2Proof

namespace Sys2Proof.Machine

theorem runCommand_of_illegal {w : Word} {why : DecodeError} (h : decode w = .illegal why) (s : State) :
    runCommand w s = .next (raise .illegalCmd s) := by
  rw [runCommand, h]

/-- The arm of a legal format Z command. -/
theorem runCommand_of_decodeZ {w : Word} {i : Instr} {mnemonic : String} (h : decode w = decodeZ w i mnemonic)
    (hzero : w.toNat / 16 = 0) (s : State) : runCommand w s = exec i s :=
  runCommand_of_decode (h.trans (decodeZ_of_zero hzero i mnemonic)) s

/-- R84: the reserved prescaler codes select nothing. -/
theorem prescOfCode_eq_none_iff (psel : BitVec 3) :
    prescOfCode psel = none ↔ psel.toNat = 0 ∨ psel.toNat = 6 ∨ psel.toNat = 7 := by
  revert psel; decide

/-- R83, R100: TOP with a reserved prescaler code. -/
theorem exec_top_of_reserved {psel : BitVec 3} (h : psel.toNat = 0 ∨ psel.toNat = 6 ∨ psel.toNat = 7) (bw : BitVec 1)
    (s : State) : exec (.top psel bw) s = .next (raise .badOperand s) := by
  rw [exec, execTop, (prescOfCode_eq_none_iff psel).2 h]

/-- The word of TOP by the weights of its fields (R81). -/
theorem encode_top_eq_ofNat (psel : BitVec 3) (bw : BitVec 1) :
    encode (.top psel bw) = BitVec.ofNat 32 (1 + 16 * psel.toNat + 128 * bw.toNat) := by
  rw [← encode_top_toNat, BitVec.ofNat_toNat, BitVec.setWidth_eq]

/-! ## The obligations on the encoding -/

/-- Settles O1: `encode` is a two-sided inverse of `decode` on the legal words. -/
theorem decodeAndEncodeAgree : Obligations.DecodeAndEncodeAgree :=
  ⟨fun i _ => decode_encode i, fun _ _ => eq_encode_of_decode⟩

/-- Settles O2: the legal words are the words `encode` writes, and those are the words of the rows; the rows differ in
their opcodes, which every mask covers. -/
theorem legalWordsAreTheTableRows : Obligations.LegalWordsAreTheTableRows := by
  refine ⟨fun w => ⟨?_, ?_⟩, fun w r₁ r₂ h₁ h₂ hw₁ hw₂ => ?_⟩
  · rintro ⟨i, hi⟩
    obtain ⟨hrow, hmem, _⟩ := encode_inOpcodeRow i
    exact ⟨opcodeRow i, hmem, by rw [eq_encode_of_decode hi, hrow]⟩
  · rintro ⟨r, hr, hw⟩
    obtain ⟨i, rfl⟩ := exists_eq_encode_of_row hr hw
    exact ⟨i, decode_encode i⟩
  · exact row_eq_of_opField_eq h₁ h₂ ((opField_of_row h₁ hw₁).symm.trans (opField_of_row h₂ hw₂))

/-- Settles O3: each clause is one arm of `decode`, with its must-be-zero test passed or failed. -/
theorem commandWordDecoding : Obligations.CommandWordDecoding := by
  intro w s
  have arm := decode_eq w
  refine ⟨fun hop => ?reserved, fun h2 h6 hne => ?formatZ, fun hop hne => ?formatT,
    fun hop hz => ?cmp, fun hop hz => ?pwmcfg, fun hop hz => ?pwmduty, fun hop hz => ?tickcfg, fun hop hz => ?cycle,
    fun hop hz => ?top⟩
  case reserved => exact runCommand_of_illegal (decode_of_reserved hop) s
  case formatZ =>
    obtain ⟨i, mnemonic, h⟩ := decode_of_formatZ h2 h6
    exact runCommand_of_illegal (h.trans (decodeZ_of_ne_zero hne i mnemonic)) s
  case formatT =>
    rw [hop] at arm
    exact runCommand_of_illegal (arm.trans (decodeT_of_ne_zero hne)) s
  case top =>
    rw [hop] at arm
    exact runCommand_of_decode (arm.trans (decodeT_of_zero hz)) s
  all_goals
    rw [hop] at arm
    exact runCommand_of_decodeZ arm hz s

/-- Settles O7: the step runs the word, which R80 finds illegal, or a TOP whose prescaler code is reserved. -/
theorem illegalWordOnlySetsStatus : Obligations.IllegalWordOnlySetsStatus := by
  intro s w rest hs
  obtain ⟨hreserved, hformatZ, hformatT, _, _, _, _, _, htop⟩ := commandWordDecoding w (withScript rest s)
  rw [step_of_commandAct hs]
  refine ⟨fun hillegal => ?_, fun hop hlt hpsel => ?_⟩
  · by_cases hop : w.toNat % 16 = 0 ∨ 7 ≤ w.toNat % 16
    · exact hreserved hop
    · by_cases hop1 : w.toNat % 16 = 1
      · exact hformatT hop1 (by omega)
      · exact hformatZ (by omega) (by omega) (by omega)
  · have hcode : (BitVec.ofNat 3 (w.toNat / 16 % 8)).toNat = w.toNat / 16 % 8 := by
      rw [← pselField_toNat, BitVec.ofNat_toNat, BitVec.setWidth_eq]
    rw [htop hop (by omega)]
    exact exec_top_of_reserved (hcode.symm ▸ hpsel) _ _

/-- Settles O4: the legal words are `encode`'s, and decode as such. -/
theorem sampleWordsDecode : Obligations.SampleWordsDecode :=
  ⟨decode_encode (.top 2#3 0#1), decode_encode (.top 3#3 1#1), decode_encode (.top 6#3 0#1), decode_encode .cmp,
    decode_encode .pwmcfg, decode_encode .pwmduty, decode_encode .tickcfg, decode_encode .cycle,
    decode_of_reserved (by decide), rfl, rfl, decode_of_reserved (by decide)⟩

/-- `CTRL.CYCLE` of readings that fit the sample registers (R91). -/
theorem ctrlCycle_of_fits {ts : List Word} (hpos : 0 < ts.length) (hfits : ts.length ≤ 5) :
    ctrlCycle ts = writeReadings ts ++ [.wr .nsens (BitVec.ofNat 32 ts.length), .cmd .cycle, .rd .cstate] :=
  if_neg (by simp only [NTEMP]; omega)

/-- Settles O47: a line's index is `indexOf`'s and its command word `encode`'s, and TOP's word is the sum of its
fields. -/
theorem pseudoInstructionExpansions : Obligations.PseudoInstructionExpansions := by
  refine ⟨fun f clk => rfl, fun p => rfl, fun f clk => rfl, fun f clk P b => ?top, fun top p => rfl,
    fun t0 t1 t2 t3 t4 => ⟨?_, ?_, ?_, ?_, ?_⟩, fun ts hts => ?other⟩
  case top => rw [← encode_top_eq_ofNat]; rfl
  case other => rw [ctrlCycle, if_pos hts]; rfl
  all_goals
    rw [ctrlCycle_of_fits (by simp) (by simp)]
    rfl

end Sys2Proof.Machine

/-! ## What a command leaves unchanged (R86, R217) -/

namespace Sys2Proof.Machine

/-- R162: a duty request reaches the duty registers and the trace only. -/
theorem applyDuty_frame (d : Int) (s : State) :
    (applyDuty d s).1 =
      { s with
        dutyreq := (applyDuty d s).1.dutyreq, pwmcmp := (applyDuty d s).1.pwmcmp, rcmp := (applyDuty d s).1.rcmp
        rach := (applyDuty d s).1.rach, trace := (applyDuty d s).1.trace } := by
  rcases applyDuty_cases d s with ⟨_, h⟩ | ⟨_, h⟩ <;> rw [h] <;> rfl

/-- R163: the counter of an ERROR cycle and its trip. -/
theorem countError_frame (s : State) :
    countError s =
      { s with errcnt := (countError s).errcnt, fanEn := (countError s).fanEn, trace := (countError s).trace } := by
  rcases countError_cases s with ⟨_, h⟩ | ⟨_, h⟩ <;> rw [h]

/-- R165: a cycle's action reaches the counter, the pins, the duty registers and the trace only. -/
theorem act_frame (st : ControlState) (s : State) :
    (act st s).1 =
      { s with
        errcnt := (act st s).1.errcnt, fanEn := (act st s).1.fanEn, errInd := (act st s).1.errInd
        dutyreq := (act st s).1.dutyreq, pwmcmp := (act st s).1.pwmcmp, rcmp := (act st s).1.rcmp
        rach := (act st s).1.rach, trace := (act st s).1.trace } := by
  rcases act_cases st s with ⟨_, h⟩ | ⟨d, b, _, _, h⟩ <;> rw [h]
  · rw [actError, pulses_eq, countError_frame]
  · rw [applyDuty_frame]; rfl

theorem act_cfg (st : ControlState) (s : State) : (act st s).1.cfg = s.cfg := by
  rw [act_frame]

/-- Settles O45: each arm of a command is an update of the registers named, and a cycle's is its action's frame with the
report and the consumption. -/
theorem commandFrames : Obligations.CommandFrames := by
  intro s
  refine ⟨fun psel bw => ?top, ⟨_, rfl, rfl⟩, ?pwmcfg, ?pwmduty, ?tickcfg, ?cycle⟩
  case top =>
    rcases execTop_cases psel bw s with ⟨_, h⟩ | ⟨_, _, _, h⟩ | ⟨_, _, _, _, h⟩ <;> exact ⟨_, h, rfl⟩
  case pwmcfg =>
    rcases execPwmcfg_cases s with ⟨_, h⟩ | ⟨top, _, h⟩
    · exact ⟨_, h, rfl⟩
    · exact ⟨_, h, by rw [configurePwm_eq]; rfl⟩
  case pwmduty =>
    rcases execPwmduty_cases s with ⟨_, h⟩ | ⟨_, h⟩
    · exact ⟨_, h, rfl⟩
    · exact ⟨_, h, by rw [driveDuty_eq]; rfl⟩
  case tickcfg =>
    rcases execTickcfg_cases s with ⟨_, h⟩ | ⟨top, _, h⟩
    · exact ⟨_, h, rfl⟩
    · exact ⟨_, h, by rw [configureTick_eq]; rfl⟩
  case cycle =>
    refine ⟨_, exec_cycle s, ?_⟩
    rw [finishCycle, act_frame]
    rfl

/-! ## What a command depends on (R86): two runs that agree on its operands -/

/-- A register that the report and the consumption keep is the same after a cycle if it is after the action. -/
theorem SameAfter.finishCycle {α : Type} {f : State → α} {wrote wrote' : Prop} {s₁ s₂ : State} {st : ControlState}
    {r₁ r₂ : State × StatusCode} (h : SameAfter f wrote s₁ r₁.1 s₂ r₂.1) (hwrote : wrote' → wrote)
    (hkeep : ∀ r, f (finishCycle st r) = f r.1) :
    SameAfter f wrote' s₁ (finishCycle st r₁) s₂ (finishCycle st r₂) := by
  intro hsame
  rw [hkeep, hkeep]
  exact h (hsame.imp_left hwrote)

/-- What two runs of a cycle's action for the state `st` have in common, before the report and the consumption: the
events `es`, the code and the counter, and each register of R86's row for CYCLE as far as the action writes it. -/
structure ActionsAgree (st : ControlState) (es : List OutEvent) (s₁ s₂ : State) (r₁ r₂ : State × StatusCode) :
    Prop where
  code : r₁.2 = r₂.2
  errcnt : r₁.1.errcnt = r₂.1.errcnt
  fanEn : SameAfter State.fanEn (st ≠ .error ∨ r₁.1.errcnt = 0#8) s₁ r₁.1 s₂ r₂.1
  errInd : SameAfter State.errInd (st = .error) s₁ r₁.1 s₂ r₂.1
  dutyreq : SameAfter State.dutyreq (st ≠ .error) s₁ r₁.1 s₂ r₂.1
  pwmcmp : SameAfter State.pwmcmp (st ≠ .error ∧ r₁.2 = .ok) s₁ r₁.1 s₂ r₂.1
  rcmp : SameAfter State.rcmp (st ≠ .error ∧ r₁.2 = .ok) s₁ r₁.1 s₂ r₂.1
  rach : SameAfter State.rach (st ≠ .error ∧ r₁.2 = .ok) s₁ r₁.1 s₂ r₂.1
  trace₁ : r₁.1.trace = s₁.trace ++ es
  trace₂ : r₂.1.trace = s₂.trace ++ es

/-! ### The four arms of a cycle's action, each as one update -/

theorem actError_of_trip {s : State} (h : s.cfg.maxerr.toNat < s.errcnt.toNat + 1) :
    actError s =
      ({ s with
          errcnt := 0#8, fanEn := false, errInd := false, trace := s.trace ++ (.fanEn false :: alarm) }, .ok) := by
  rcases countError_cases s with ⟨_, e⟩ | ⟨hle, _⟩
  · rw [actError, pulses_eq, e, List.append_assoc]; rfl
  · omega

theorem actError_of_count {s : State} (h : s.errcnt.toNat + 1 ≤ s.cfg.maxerr.toNat) :
    actError s =
      ({ s with errcnt := BitVec.ofNat 8 (s.errcnt.toNat + 1), errInd := false, trace := s.trace ++ alarm }, .ok) := by
  rcases countError_cases s with ⟨hlt, _⟩ | ⟨_, e⟩
  · omega
  · rw [actError, pulses_eq, e]

/-- The action of a cycle that is no ERROR cycle, on a configured channel (R162). -/
theorem dutyAction_of_configured {s : State} (h : s.pwmConfigured = true) (d : Int) (b : Bool) :
    applyDuty d (driveFan b (setErrcnt 0#8 s)) =
      ({ s with
          errcnt := 0#8, fanEn := b, dutyreq := fxWord d
          pwmcmp := BitVec.ofNat 16 (compareValue s.pwmtop.toNat d)
          rcmp := BitVec.ofNat 16 (compareValue s.pwmtop.toNat d)
          rach := BitVec.ofInt 32 (achieved s.pwmtop.toNat (compareValue s.pwmtop.toNat d))
          trace := s.trace ++ [.fanEn b, .pwmCmp (BitVec.ofNat 16 (compareValue s.pwmtop.toNat d))] }, .ok) := by
  rw [applyDuty, driveFan_pwmConfigured, setErrcnt_pwmConfigured, if_pos h, driveDuty_eq]
  simp [setDutyreq, driveFan, emit, setErrcnt]

/-- The same on a channel that is not configured (R166). -/
theorem dutyAction_of_unconfigured {s : State} (h : s.pwmConfigured = false) (d : Int) (b : Bool) :
    applyDuty d (driveFan b (setErrcnt 0#8 s)) =
      ({ s with errcnt := 0#8, fanEn := b, dutyreq := fxWord d, trace := s.trace ++ [.fanEn b] }, .notConfigured) := by
  rw [applyDuty, driveFan_pwmConfigured, setErrcnt_pwmConfigured, if_neg (by simp [h])]
  rfl

section TwoRuns

variable {s₁ s₂ : State}

/-- TOP takes the same arm, with the same top count (R100). -/
theorem execTop_agree (hfreq : s₁.freq = s₂.freq) (hclk : s₁.clk = s₂.clk) (psel : BitVec 3) (bw : BitVec 1) :
    (∃ code, code ≠ .ok ∧ execTop psel bw s₁ = .next (raise code s₁) ∧
        execTop psel bw s₂ = .next (raise code s₂)) ∨
      ∃ top, execTop psel bw s₁ = .next (raise .ok (setRtop top s₁)) ∧
        execTop psel bw s₂ = .next (raise .ok (setRtop top s₂)) := by
  have hF : opF s₁ = opF s₂ := congrArg BitVec.toNat hfreq
  have hC : opC s₁ = opC s₂ := congrArg BitVec.toNat hclk
  rcases execTop_cases psel bw s₁ with ⟨hp, e⟩ | ⟨P, hp, htop, e⟩ | ⟨P, top, hp, htop, e⟩
  · exact .inl ⟨_, by decide, e, by rw [execTop, hp]⟩
  · rw [hF, hC] at htop
    exact .inl ⟨_, by decide, e, by simp only [execTop, topWith, hp, htop]⟩
  · rw [hF, hC] at htop
    exact .inr ⟨_, e, by simp only [execTop, topWith, hp, htop]⟩

/-- PWMCFG takes the same arm, with the same top count (R120). -/
theorem execPwmcfg_agree (hparams : s₁.params = s₂.params) (hfreq : s₁.freq = s₂.freq) (hclk : s₁.clk = s₂.clk) :
    (execPwmcfg s₁ = .next (raise .overflow s₁) ∧ execPwmcfg s₂ = .next (raise .overflow s₂)) ∨
      ∃ top, execPwmcfg s₁ = .next (raise .ok (configurePwm top s₁)) ∧
        execPwmcfg s₂ = .next (raise .ok (configurePwm top s₂)) := by
  rcases execPwmcfg_cases s₁ with ⟨htop, e⟩ | ⟨top, htop, e⟩ <;> rw [opF, opC, hparams, hfreq, hclk] at htop
  · exact .inl ⟨e, by simp only [execPwmcfg, opF, opC, htop]⟩
  · exact .inr ⟨_, e, by simp only [execPwmcfg, opF, opC, htop]⟩

/-- TICKCFG takes the same arm, with the same top count (R140). -/
theorem execTickcfg_agree (hparams : s₁.params = s₂.params) (hfreq : s₁.freq = s₂.freq) (hclk : s₁.clk = s₂.clk) :
    (execTickcfg s₁ = .next (raise .overflow s₁) ∧ execTickcfg s₂ = .next (raise .overflow s₂)) ∨
      ∃ top, execTickcfg s₁ = .next (raise .ok (configureTick top s₁)) ∧
        execTickcfg s₂ = .next (raise .ok (configureTick top s₂)) := by
  rcases execTickcfg_cases s₁ with ⟨htop, e⟩ | ⟨top, htop, e⟩ <;> rw [opF, opC, hparams, hfreq, hclk] at htop
  · exact .inl ⟨e, by simp only [execTickcfg, opF, opC, htop]⟩
  · exact .inr ⟨_, e, by simp only [execTickcfg, opF, opC, htop]⟩

/-- PWMDUTY is refused in both runs, or drives the same request in both (R124, R126). -/
theorem execPwmduty_agree (hpct : s₁.pct = s₂.pct) (hconf : s₁.pwmConfigured = s₂.pwmConfigured) :
    (execPwmduty s₁ = .next (raise .notConfigured s₁) ∧ execPwmduty s₂ = .next (raise .notConfigured s₂)) ∨
      ∃ p, execPwmduty s₁ = .next (raise .ok (driveDuty p s₁)) ∧
        execPwmduty s₂ = .next (raise .ok (driveDuty p s₂)) := by
  rcases execPwmduty_cases s₁ with ⟨h, e⟩ | ⟨h, e⟩ <;> rw [hconf] at h
  · exact .inl ⟨e, by simp [execPwmduty, h]⟩
  · exact .inr ⟨_, e, by simp [execPwmduty, h, opP, hpct]⟩

/-- The classifier looks at the readings of the snapshot only (R153, R167). -/
theorem classify_eq_of_take_eq {n : Nat} {t u : List Int} (c : Cfg) (h : t.take n = u.take n) :
    classify c n t = classify c n u := by
  rw [classify, classify, h]

theorem cycleState_agree (hcfg : s₁.cfg = s₂.cfg) (hnsens : s₁.nsens = s₂.nsens)
    (hused : usedReadings s₁ = usedReadings s₂) : cycleState s₁ = cycleState s₂ := by
  have htake : (readings s₁).take s₁.nsens.toNat = (readings s₂).take s₂.nsens.toNat := hused
  rw [hnsens] at htake
  rw [cycleState, cycleState, sensorCount, sensorCount, hcfg, hnsens]
  exact classify_eq_of_take_eq s₂.cfg htake

/-- The two actions are both the ERROR action, or the same duty after the same fan command (R157 to R163). -/
theorem act_agree (hcfg : s₁.cfg = s₂.cfg) (hused : usedReadings s₁ = usedReadings s₂) (st : ControlState) :
    (st = .error ∧ act st s₁ = actError s₁ ∧ act st s₂ = actError s₂) ∨
      ∃ d b, st ≠ .error ∧ act st s₁ = applyDuty d (driveFan b (setErrcnt 0#8 s₁)) ∧
        act st s₂ = applyDuty d (driveFan b (setErrcnt 0#8 s₂)) := by
  cases st with
  | hot => exact .inr ⟨HUNDRED, true, by decide, rfl, rfl⟩
  | warm =>
    refine .inr ⟨warmDuty s₁.cfg (greatest (snapshot s₁)), true, by decide, rfl, ?_⟩
    rw [hcfg, snapshot_eq_usedReadings, hused]
    rfl
  | cold => exact .inr ⟨HUNDRED, false, by decide, rfl, rfl⟩
  | error => exact .inl ⟨rfl, rfl, rfl⟩

/-- An ERROR cycle trips in both runs or counts in both (R163, R164); the counter is 0 after a trip only. -/
theorem actError_agree (hcfg : s₁.cfg = s₂.cfg) (herrcnt : s₁.errcnt = s₂.errcnt) :
    ∃ es, ActionsAgree .error es s₁ s₂ (actError s₁) (actError s₂) := by
  by_cases hlimit : s₁.cfg.maxerr.toNat < s₁.errcnt.toNat + 1
  · have hlimit₂ := hlimit
    rw [hcfg, herrcnt] at hlimit₂
    rw [actError_of_trip hlimit, actError_of_trip hlimit₂]
    exact ⟨_,
      { code := rfl, errcnt := rfl, fanEn := sameAfter_of_eq rfl, errInd := sameAfter_of_eq rfl
        dutyreq := sameAfter_of_kept (by simp) rfl rfl, pwmcmp := sameAfter_of_kept (by simp) rfl rfl
        rcmp := sameAfter_of_kept (by simp) rfl rfl, rach := sameAfter_of_kept (by simp) rfl rfl
        trace₁ := rfl, trace₂ := rfl }⟩
  · have hcount : s₁.errcnt.toNat + 1 ≤ s₁.cfg.maxerr.toNat := by omega
    have hcount₂ := hcount
    rw [hcfg, herrcnt] at hcount₂
    have hne : BitVec.ofNat 8 (s₁.errcnt.toNat + 1) ≠ 0#8 := by
      have hmax := s₁.cfg.maxerr.isLt
      simp only [ne_eq, BitVec.toNat_eq, BitVec.toNat_ofNat]
      omega
    rw [actError_of_count hcount, actError_of_count hcount₂]
    exact ⟨_,
      { code := rfl, errcnt := by rw [herrcnt], fanEn := sameAfter_of_kept (by simp [hne]) rfl rfl
        errInd := sameAfter_of_eq rfl
        dutyreq := sameAfter_of_kept (by simp) rfl rfl, pwmcmp := sameAfter_of_kept (by simp) rfl rfl
        rcmp := sameAfter_of_kept (by simp) rfl rfl, rach := sameAfter_of_kept (by simp) rfl rfl
        trace₁ := rfl, trace₂ := rfl }⟩

/-- The action of every other cycle is driven in both runs or left undriven in both (R162, R166). -/
theorem dutyAction_agree {st : ControlState} (hst : st ≠ .error) (hconf : s₁.pwmConfigured = s₂.pwmConfigured)
    (htop : s₁.pwmtop = s₂.pwmtop) (d : Int) (b : Bool) :
    ∃ es, ActionsAgree st es s₁ s₂ (applyDuty d (driveFan b (setErrcnt 0#8 s₁)))
      (applyDuty d (driveFan b (setErrcnt 0#8 s₂))) := by
  cases h : s₁.pwmConfigured
  case true =>
    rw [dutyAction_of_configured h, dutyAction_of_configured (hconf ▸ h), htop]
    exact ⟨_,
      { code := rfl, errcnt := rfl, fanEn := sameAfter_of_eq rfl, errInd := sameAfter_of_kept hst rfl rfl
        dutyreq := sameAfter_of_eq rfl, pwmcmp := sameAfter_of_eq rfl, rcmp := sameAfter_of_eq rfl
        rach := sameAfter_of_eq rfl, trace₁ := rfl, trace₂ := rfl }⟩
  case false =>
    rw [dutyAction_of_unconfigured h, dutyAction_of_unconfigured (hconf ▸ h)]
    exact ⟨_,
      { code := rfl, errcnt := rfl, fanEn := sameAfter_of_eq rfl, errInd := sameAfter_of_kept hst rfl rfl
        dutyreq := sameAfter_of_eq rfl, pwmcmp := sameAfter_of_kept (by simp) rfl rfl
        rcmp := sameAfter_of_kept (by simp) rfl rfl, rach := sameAfter_of_kept (by simp) rfl rfl
        trace₁ := rfl, trace₂ := rfl }⟩

theorem act_actionsAgree (hcfg : s₁.cfg = s₂.cfg) (hused : usedReadings s₁ = usedReadings s₂)
    (herrcnt : s₁.errcnt = s₂.errcnt) (hconf : s₁.pwmConfigured = s₂.pwmConfigured) (htop : s₁.pwmtop = s₂.pwmtop)
    (st : ControlState) : ∃ es, ActionsAgree st es s₁ s₂ (act st s₁) (act st s₂) := by
  rcases act_agree hcfg hused st with ⟨rfl, e₁, e₂⟩ | ⟨d, b, hst, e₁, e₂⟩ <;> rw [e₁, e₂]
  · exact actError_agree hcfg herrcnt
  · exact dutyAction_agree hst hconf htop d b

end TwoRuns

/-- Settles O46: two runs that agree on a command's operands take the same arm of it with the same values, and what
that arm does not write it keeps. -/
theorem commandsDependOnlyOnTheirOperands : Obligations.CommandsDependOnlyOnTheirOperands := by
  intro s₁ s₂ hparams hcfg
  refine ⟨fun psel bw hfreq hclk => ?top, fun htopin hpct => ?cmp, fun hfreq hclk => ?pwmcfg,
    fun hpct hconf htop => ?pwmduty, fun hfreq hclk => ?tickcfg,
    fun hnsens hused herrcnt hconf htop => ?cycle⟩
  case top =>
    rcases execTop_agree hfreq hclk psel bw with ⟨code, hcode, e₁, e₂⟩ | ⟨top, e₁, e₂⟩
    · exact ⟨_, _, e₁, e₂, rfl, sameAfter_of_kept hcode rfl rfl, rfl, rfl⟩
    · exact ⟨_, _, e₁, e₂, rfl, sameAfter_of_eq rfl, rfl, rfl⟩
  case cmp =>
    have hT : opT s₁ = opT s₂ := congrArg BitVec.toNat htopin
    have hp : opP s₁ = opP s₂ := congrArg fxInt hpct
    exact ⟨_, _, rfl, rfl, rfl, by simp [hT, hp], by simp [hT, hp], rfl, rfl⟩
  case pwmcfg =>
    rcases execPwmcfg_agree hparams hfreq hclk with ⟨e₁, e₂⟩ | ⟨top, e₁, e₂⟩
    · exact ⟨_, _, [], e₁, e₂, rfl, sameAfter_of_kept (by simp) rfl rfl, sameAfter_of_kept (by simp) rfl rfl,
        sameAfter_of_kept (by simp) rfl rfl, (List.append_nil _).symm, (List.append_nil _).symm⟩
    · rw [configurePwm_eq] at e₁ e₂
      exact ⟨_, _, _, e₁, e₂, rfl, sameAfter_of_eq rfl, sameAfter_of_eq rfl, sameAfter_of_eq rfl, rfl,
        by rw [hparams]; rfl⟩
  case pwmduty =>
    rcases execPwmduty_agree hpct hconf with ⟨e₁, e₂⟩ | ⟨p, e₁, e₂⟩
    · exact ⟨_, _, [], e₁, e₂, rfl, sameAfter_of_kept (by simp) rfl rfl, sameAfter_of_kept (by simp) rfl rfl,
        sameAfter_of_kept (by simp) rfl rfl, (List.append_nil _).symm, (List.append_nil _).symm⟩
    · rw [driveDuty_eq, htop] at e₁
      rw [driveDuty_eq] at e₂
      exact ⟨_, _, _, e₁, e₂, rfl, sameAfter_of_eq rfl, sameAfter_of_eq rfl, sameAfter_of_eq rfl, rfl, rfl⟩
  case tickcfg =>
    rcases execTickcfg_agree hparams hfreq hclk with ⟨e₁, e₂⟩ | ⟨top, e₁, e₂⟩
    · exact ⟨_, _, [], e₁, e₂, rfl, sameAfter_of_kept (by simp) rfl rfl, sameAfter_of_kept (by simp) rfl rfl,
        sameAfter_of_kept (by simp) rfl rfl, (List.append_nil _).symm, (List.append_nil _).symm⟩
    · rw [configureTick_eq] at e₁ e₂
      exact ⟨_, _, _, e₁, e₂, rfl, sameAfter_of_eq rfl, sameAfter_of_eq rfl, sameAfter_of_eq rfl, rfl,
        by rw [hparams]; rfl⟩
  case cycle =>
    have hst : cycleState s₁ = cycleState s₂ := cycleState_agree hcfg hnsens hused
    obtain ⟨es, h⟩ := act_actionsAgree hcfg hused herrcnt hconf htop (cycleState s₂)
    have e₁ := exec_cycle s₁
    rw [hst] at e₁
    have hsentinel : (act (cycleState s₂) s₁).1.cfg.sentinel = (act (cycleState s₂) s₂).1.cfg.sentinel := by
      rw [act_cfg, act_cfg, hcfg]
    have hne : some (cycleState s₂) ≠ some .error → cycleState s₂ ≠ .error := mt (congrArg some)
    exact ⟨_, _, es, e₁, exec_cycle s₂, h.code, rfl, h.errcnt,
      h.fanEn.finishCycle (Or.imp_left hne) fun _ => rfl, h.errInd.finishCycle Option.some.inj fun _ => rfl,
      h.dutyreq.finishCycle hne fun _ => rfl, h.pwmcmp.finishCycle (And.imp_left hne) fun _ => rfl,
      h.rcmp.finishCycle (And.imp_left hne) fun _ => rfl, h.rach.finishCycle (And.imp_left hne) fun _ => rfl,
      rfl, hsentinel, hsentinel, hsentinel, hsentinel, hsentinel, h.trace₁, h.trace₂⟩

end Sys2Proof.Machine

/-! ## The top count by its quotient (R101 to R104) -/

namespace Sys2Proof.Machine

/-- R11: rounding moves a quotient by at most one half. -/
theorem rnd_nearest (n : Int) {d : Int} (hd : 0 < d) : 2 * |rnd n d * d - n| ≤ d := by
  have ⟨hl, hu⟩ := rnd_bounds n d hd
  have h : |2 * (rnd n d * d - n)| ≤ d := abs_le.2 ⟨by linarith, by linarith⟩
  rwa [abs_mul, abs_two] at h

/-- R103, the lower end: the quotient is at least 1 from one half on. -/
theorem one_le_topQuotient_iff {F P : Nat} (C : Nat) (hF : 0 < F) (hP : 0 < P) :
    1 ≤ topQuotient F C P ↔ P * F ≤ 512 * C := by
  have hPF : 0 < P * F := Nat.mul_pos hP hF
  rw [topQuotient, Nat.le_div_iff_mul_le (by omega)]
  omega

/-- R103, the upper end: the quotient is at most `n` below `n + 1/2`. -/
theorem topQuotient_le_iff {F P : Nat} (C n : Nat) (hF : 0 < F) (hP : 0 < P) :
    topQuotient F C P ≤ n ↔ 512 * C < (2 * n + 1) * (P * F) := by
  have hPF : 0 < P * F := Nat.mul_pos hP hF
  rw [topQuotient, ← Nat.lt_succ_iff, Nat.div_lt_iff_lt_mul (by omega)]
  constructor <;> intro h <;> linarith

/-- R102: a clock of 0 Hz rounds to no count. -/
theorem topQuotient_zero_clock (F P : Nat) : topQuotient F 0 P = 0 := by
  rw [topQuotient, Nat.div_eq_zero_iff]
  omega

theorem computeTop_of_fits {F C P b : Nat} (h : TopFits F C P b) :
    computeTop F C P b = .ok (topQuotient F C P - 1) := by
  rw [computeTop_eq, if_pos h]

theorem computeTop_of_not_fits {F C P b : Nat} (h : ¬ TopFits F C P b) : computeTop F C P b = .overflow := by
  rw [computeTop_eq, if_neg h]

/-- `computeTop` succeeds exactly on the operands that fit (R103). -/
theorem exists_computeTop_eq_ok_iff (F C P b : Nat) : (∃ top, computeTop F C P b = .ok top) ↔ TopFits F C P b := by
  constructor
  · rintro ⟨top, htop⟩
    by_contra h
    rw [computeTop_of_not_fits h] at htop
    cases htop
  · exact fun h => ⟨_, computeTop_of_fits h⟩

/-- An accepted top count is one less than the rounded quotient (R101). -/
theorem rnd_eq_of_computeTop {F C P b top : Nat} (h : computeTop F C P b = .ok top) :
    rnd (256 * C) (P * F) = top + 1 := by
  obtain ⟨_, hnonneg, _, rfl⟩ := (computeTop_eq_ok_iff F C P b top).1 h
  omega

/-! ## The codes of TOP's word (R84, R85) -/

/-- R84: the divider of each legal prescaler code. -/
theorem prescOfCode_of_row {psel : BitVec 3} {P : Nat}
    (h : (psel.toNat, P) ∈ [(1, 1), (2, 8), (3, 64), (4, 256), (5, 1024)]) :
    ∃ Q, prescOfCode psel = some Q ∧ divider Q = P := by
  simp only [List.mem_cons, Prod.mk.injEq, List.not_mem_nil, or_false] at h
  rcases h with ⟨hcode, rfl⟩ | ⟨hcode, rfl⟩ | ⟨hcode, rfl⟩ | ⟨hcode, rfl⟩ | ⟨hcode, rfl⟩ <;>
    exact ⟨_, by rw [prescOfCode, hcode]; rfl, rfl⟩

/-- R85: the counter bits of each width code. -/
theorem widthBits_of_row {bw : BitVec 1} {b : Nat} (h : (bw.toNat, b) ∈ [(0, 8), (1, 16)]) :
    widthBits (widthOfCode bw) = b := by
  simp only [List.mem_cons, Prod.mk.injEq, List.not_mem_nil, or_false] at h
  rcases h with ⟨hcode, rfl⟩ | ⟨hcode, rfl⟩
  · rw [BitVec.eq_of_toNat_eq (y := 0#1) hcode]; rfl
  · rw [BitVec.eq_of_toNat_eq (y := 1#1) hcode]; rfl

/-! ## The quantizer (R106 to R108) -/

@[simp] theorem computeCompare_fst (T : Nat) (p : Int) : (computeCompare T p).1 = compareValue T p := rfl

@[simp] theorem computeCompare_snd (T : Nat) (p : Int) :
    (computeCompare T p).2 = achieved T (compareValue T p) := rfl

/-- The clamp of R106 does nothing to a percentage. -/
theorem clampedPct_of_mem {p : Int} (h0 : 0 ≤ p) (h100 : p ≤ HUNDRED) : clampedPct p = p := by
  rw [← clamp_eq_clampedPct, clamp_of_mem h0 h100]

/-- R106: the rounded count is within half a count of the clamped request. -/
theorem rawCount_nearest (T : Nat) (p : Int) :
    2 * |rawCount T p * HUNDRED - (T + 1) * clampedPct p| ≤ HUNDRED := by
  rw [rawCount, clamp_eq_clampedPct]
  exact rnd_nearest _ (by decide)

/-- R107: the requests that round to no count are those below half a resolution step. -/
theorem rawCount_eq_zero_iff (T : Nat) (p : Int) : rawCount T p = 0 ↔ 2 * (T + 1) * clampedPct p < 6553600 := by
  have ⟨hnonneg, _⟩ := rawCount_mem T p
  have ⟨hl, hu⟩ := rnd_bounds ((T + 1) * clampedPct p) HUNDRED (by decide)
  have hraw : rnd ((T + 1) * clampedPct p) HUNDRED = rawCount T p := by rw [rawCount, clamp_eq_clampedPct]
  rw [hraw] at hl hu
  unfold HUNDRED at hl hu
  rw [mul_assoc]
  omega

/-- R106: a larger request never rounds to fewer counts. -/
theorem rawCount_mono (T : Nat) {p q : Int} (h : clampedPct p ≤ clampedPct q) : rawCount T p ≤ rawCount T q := by
  rw [rawCount, rawCount, clamp_eq_clampedPct, clamp_eq_clampedPct]
  exact rnd_mono (by decide) (mul_le_mul_of_nonneg_left h (by positivity))

/-- R107: no count is remapped to the whole period. -/
theorem compareValue_of_zero {T : Nat} {p : Int} (h : rawCount T p = 0) : compareValue T p = T := by
  rw [compareValue, if_pos h]

/-- R106: from one count on the compare value is one less than the count. -/
theorem compareValue_of_pos {T : Nat} {p : Int} (h : 1 ≤ rawCount T p) :
    (compareValue T p : Int) = rawCount T p - 1 := by
  rw [compareValue, if_neg (by omega)]
  omega

/-- A request of the whole period rounds to the whole period. -/
theorem rawCount_hundred (T : Nat) : rawCount T 6553600 = T + 1 := by
  rw [rawCount, clamp_of_mem (by decide) (by decide)]
  exact rnd_mul_self _ _ (by decide)

/-- R108: the achieved value differs from the exact one by the rounding only. -/
theorem achieved_nearest (T c : Nat) : 2 * |achieved T c * (T + 1) - 6553600 * (c + 1)| ≤ T + 1 :=
  rnd_nearest _ (by positivity)

/-- R108: nothing is rounded where the exact value is a whole number of FX units. -/
theorem achieved_mul_of_dvd {T c : Nat} (h : (T + 1 : Int) ∣ 6553600 * (c + 1)) :
    achieved T c * (T + 1) = 6553600 * (c + 1) := by
  obtain ⟨k, hk⟩ := h
  rw [achieved, HUNDRED, hk, mul_comm _ k, rnd_mul_self k _ (by positivity)]

/-- R108: the whole period is 100 %. -/
theorem achieved_self (T : Nat) : achieved T T = 6553600 := rnd_mul_self _ _ (by positivity)

/-- R109 (e): the least achieved value is that of one count. -/
theorem achieved_zero_le (T c : Nat) : achieved T 0 ≤ achieved T c :=
  rnd_mono (by positivity) (by simp)

/-- R109 (e): one count of a 16 bit period is at least 100 FX units. -/
theorem hundredUnits_le_achieved_zero {T : Nat} (hT : T ≤ 65535) : 100 ≤ achieved T 0 := by
  rw [achieved, rnd, HUNDRED, Int.le_ediv_iff_mul_le (by positivity)]
  push_cast
  linarith

/-- R109 (b): a compare value inside the period falls short of 100 %. -/
theorem achieved_lt_of_lt {T c : Nat} (hT : T ≤ 65535) (hc : c < T) : achieved T c < 6553600 := by
  have hl : 2 * (T + 1 : Int) * achieved T c ≤ 2 * (6553600 * (c + 1)) + (T + 1) := (rnd_bounds _ _ (by positivity)).1
  by_contra hge
  have hfull : (T + 1 : Int) * 6553600 ≤ (T + 1) * achieved T c :=
    mul_le_mul_of_nonneg_left (by omega) (by positivity)
  rw [mul_assoc] at hl
  omega

/-- R107: below half a resolution step the channel is driven fully on. -/
theorem computeCompare_of_zero {T : Nat} {p : Int} (h : rawCount T p = 0) : computeCompare T p = (T, 6553600) := by
  rw [computeCompare, compareValue_of_zero h, achieved_self]

/-- R106: 100 % is the whole period. -/
theorem computeCompare_hundred (T : Nat) : computeCompare T 6553600 = (T, 6553600) := by
  have hraw := rawCount_hundred T
  have hc : compareValue T 6553600 = T := by
    have hpred := compareValue_of_pos (T := T) (p := 6553600) (by omega)
    omega
  rw [computeCompare, hc, achieved_self]

/-- R109 (d): from one count on, the compare value's exact duty is within half a step of the clamped request. -/
theorem compareValue_nearest {T : Nat} {p : Int} (h : 1 ≤ rawCount T p) :
    2 * |6553600 * (compareValue T p + 1 : Int) - clampedPct p * (T + 1)| ≤ 6553600 := by
  rw [compareValue_of_pos h, sub_add_cancel, mul_comm 6553600, mul_comm (clampedPct p)]
  exact rawCount_nearest T p

/-! ## C1: how far the achieved value is from the request -/

/-- R109 (d): from one count on, half a step of quantization and half an FX unit of rounding make at most one step. -/
theorem achieved_sub_le_step {T : Nat} {p : Int} (hT : T ≤ 65535) (h0 : 0 ≤ p) (h100 : p ≤ 6553600)
    (hraw : 1 ≤ rawCount T p) : |achieved T (compareValue T p) - p| * (T + 1) ≤ 6553600 := by
  have hround := achieved_nearest T (compareValue T p)
  have hquant := compareValue_nearest hraw
  rw [clampedPct_of_mem h0 h100] at hquant
  have htriangle := abs_sub_le (achieved T (compareValue T p) * (T + 1 : Int))
    (6553600 * (compareValue T p + 1 : Int)) (p * (T + 1))
  calc |achieved T (compareValue T p) - p| * (T + 1 : Int)
      = |achieved T (compareValue T p) * (T + 1) - p * (T + 1)| := by
        rw [← sub_mul, abs_mul, abs_of_pos (by positivity : (0 : Int) < T + 1)]
    _ ≤ 6553600 := by omega

/-- C1: the remap to full on misses a request below half a step by more than one step. -/
theorem step_lt_achieved_sub {T : Nat} {p : Int} (hT : 1 ≤ T) (h0 : 0 ≤ p) (h100 : p ≤ 6553600)
    (hp : 2 * (T + 1) * p < 6553600) : 6553600 < |achieved T (compareValue T p) - p| * (T + 1) := by
  have hraw : rawCount T p = 0 := by rwa [rawCount_eq_zero_iff, clampedPct_of_mem h0 h100]
  have hT' : (1 : Int) ≤ T := by exact_mod_cast hT
  rw [compareValue_of_zero hraw, achieved_self, abs_of_nonneg (by omega)]
  linarith

end Sys2Proof.Machine

/-! ## The obligations on TimerMath -/

namespace Sys2Proof.Machine

/-- Settles O18: the codes name a divider and a width, and `computeTop` by the quotient of R101 does the rest. -/
theorem topCommandResult : Obligations.TopCommandResult := by
  intro psel bw s
  refine ⟨fun h => exec_top_of_reserved h bw s, fun P b hP hb => ?_⟩
  obtain ⟨Q, hQ, rfl⟩ := prescOfCode_of_row hP
  have hexec : exec (.top psel bw) s = .next (topWith (divider Q) b s) := by
    rw [exec, execTop, hQ, widthBits_of_row hb]
  rw [hexec]
  constructor
  · intro h
    rw [topWith, opF, opC, computeTop_of_fits h]
    rfl
  · intro h
    rw [topWith, opF, opC, computeTop_of_not_fits h]
    rfl

/-- Settles O19: the two ends of the range, each as a bound on the quotient. -/
theorem topRangeCheck : Obligations.TopRangeCheck := by
  intro F C P b hF hP
  refine ⟨?range, ?bound, ?overflow⟩
  case range =>
    rw [exists_computeTop_eq_ok_iff, TopFits, one_le_topQuotient_iff C hF hP, topQuotient_le_iff C _ hF hP,
      pow_succ']
    exact and_iff_right hF
  case bound =>
    intro top htop
    have hle := computeTop_le htop
    exact ⟨hle, by rintro rfl; exact hle, by rintro rfl; exact hle⟩
  case overflow => exact fun h => (computeTop_cases F C P b).resolve_right h

/-- Settles O21: an accepted top count is the rounded quotient less one, and rounding is to the nearest. -/
theorem acceptedTopIsNearest : Obligations.AcceptedTopIsNearest := by
  intro F C P b top hP htop
  obtain ⟨hF, _⟩ := (computeTop_eq_ok_iff F C P b top).1 htop
  have hPF : (0 : Int) < P * F := by positivity
  have h := rnd_nearest (256 * C) hPF
  rwa [rnd_eq_of_computeTop htop, abs_sub_comm, mul_comm ((top : Int) + 1)] at h

/-- Settles O22: the model's quantizer is the formula of R106. -/
theorem cmpCommandResult : Obligations.CmpCommandResult := by
  intro s
  rw [exec, execCmp, computeCompare, compareValue_eq_quantCompare, achieved_eq_quantAchieved]
  rfl

/-- Settles O23: (a) to (f) of R109 from the bounds of the count and of the achieved value. -/
theorem quantizerProperties : Obligations.QuantizerProperties := by
  rintro top p T rfl
  have hT : top.toNat ≤ 65535 := Nat.le_of_lt_succ top.isLt
  have hle := compareValue_le top.toNat p.toInt
  simp only [computeCompare_fst, computeCompare_snd, ← rawCount_eq_quantRaw]
  refine ⟨hle, ⟨?fullOnly, ?full⟩, ⟨?zero, computeCompare_hundred _⟩, ?halfStep, ⟨?least, ?leastValue⟩, ?mono⟩
  case fullOnly =>
    intro ha
    by_contra hne
    exact (achieved_lt_of_lt hT (lt_of_le_of_ne hle hne)).ne ha
  case full => intro hc; rw [hc, achieved_self]
  case zero => exact computeCompare_of_zero ((rawCount_eq_zero_iff _ 0).2 (by simp [clampedPct]))
  case halfStep =>
    intro hraw
    have hnear := compareValue_nearest hraw
    omega
  case least => exact achieved_zero_le _ _
  case leastValue => exact hundredUnits_le_achieved_zero hT
  case mono =>
    intro p₂ hpc hraw hraw₂
    have hmono := rawCount_mono top.toNat hpc
    have hc := compareValue_of_pos hraw
    have hc₂ := compareValue_of_pos hraw₂
    omega

/-- Settles O24: the count is 0 exactly below half a step; at the tie it is 1. -/
theorem requestsBelowHalfAStepAreRemapped : Obligations.RequestsBelowHalfAStepAreRemapped := by
  intro T p hT
  have ⟨hnonneg, _⟩ := rawCount_mem T p
  have hzero := rawCount_eq_zero_iff T p
  have hpos (h : 6553600 ≤ 2 * (T + 1) * clampedPct p) : 1 ≤ rawCount T p := by omega
  simp only [computeCompare_fst, computeCompare_snd, ← rawCount_eq_quantRaw]
  refine ⟨hzero, fun h => computeCompare_of_zero (hzero.2 h), fun h => compareValue_of_pos (hpos h), ?tie, ?positive⟩
  case tie =>
    intro h
    have hraw : rawCount T p = 1 := by rw [rawCount_eq_quantRaw, quantRaw, h]; rfl
    have hc := compareValue_of_pos hraw.ge
    exact ⟨hraw, by omega⟩
  case positive =>
    calc (0 : Int) < 100 := by decide
      _ ≤ achieved T 0 := hundredUnits_le_achieved_zero hT
      _ ≤ achieved T (compareValue T p) := achieved_zero_le T _

/-- Settles O25: the achieved value is one rounding of the exact one. -/
theorem achievedPercentIsRoundedOnce : Obligations.AchievedPercentIsRoundedOnce :=
  fun T c _ => ⟨achieved_nearest T c, achieved_mul_of_dvd, achieved_self T⟩

/-- Settles O26: the remap of R107 is what breaks the bound, and a request of 0 on a period of two counts shows it. -/
theorem oneStepBoundFailsBelowHalfAStep : Obligations.OneStepBoundFailsBelowHalfAStep := by
  refine ⟨fun T p hT hT' h0 h100 => ⟨step_lt_achieved_sub hT h0 h100, fun h => ?within⟩, ?oneCount, ?negation⟩
  case within =>
    have hne : rawCount T p ≠ 0 := by
      rw [Ne, rawCount_eq_zero_iff, clampedPct_of_mem h0 h100]
      exact not_lt.2 h
    have ⟨hnonneg, _⟩ := rawCount_mem T p
    exact achieved_sub_le_step hT' h0 h100 (by omega)
  case oneCount =>
    intro p h0 h100
    have hc : compareValue 0 p = 0 := Nat.le_zero.1 (compareValue_le 0 p)
    rw [computeCompare_snd, hc, achieved_self, abs_of_nonneg (by omega)]
    omega
  case negation =>
    intro hall
    exact (step_lt_achieved_sub (T := 1) (p := 0) le_rfl le_rfl (by decide) (by decide)).not_ge
      (hall 1 0 (by decide) le_rfl (by decide))

/-- Settles O20: F = 0 is refused before the division, and C = 0 leaves no count to accept. -/
theorem zeroFrequencyOverflows : Obligations.ZeroFrequencyOverflows := by
  intro F C P b
  constructor
  · exact computeTop_of_not_fits fun ⟨hF, _⟩ => hF.false
  · refine computeTop_of_not_fits fun ⟨_, hone, _⟩ => ?_
    rw [topQuotient_zero_clock] at hone
    omega

end Sys2Proof.Machine

/-! ## The commands of PwmChannel (R120 to R127) -/

namespace Sys2Proof.Machine

/-- R85: a 16 bit register holds every count of either width. -/
theorem two_pow_widthBits_le (w : Width) : 2 ^ widthBits w ≤ 2 ^ 16 := by
  cases w <;> decide

/-- R101, R103: a top count that fits its counter is stored whole. -/
theorem ofNat_topQuotient_toNat {F C P : Nat} {w : Width} (h : TopFits F C P (widthBits w)) :
    (BitVec.ofNat 16 (topQuotient F C P - 1)).toNat = topQuotient F C P - 1 := by
  obtain ⟨_, hone, hle⟩ := h
  have hw := two_pow_widthBits_le w
  rw [BitVec.toNat_ofNat, Nat.mod_eq_of_lt (by omega)]

/-- A compare value on a top count of 16 bits is stored whole: it is at most the top count (R106). -/
theorem ofNat_compareValue_toNat (T : Half) (p : Int) :
    (BitVec.ofNat 16 (compareValue T.toNat p)).toNat = compareValue T.toNat p := by
  rw [BitVec.toNat_ofNat, Nat.mod_eq_of_lt ((compareValue_le T.toNat p).trans_lt T.isLt)]

/-- The achieved percentage of a quantized request is stored whole: it is between 0 and 100 % (R108). -/
theorem fxWord_achieved_toInt (T : Nat) (p : Int) :
    (fxWord (achieved T (compareValue T p))).toInt = achieved T (compareValue T p) := by
  have ⟨h0, h100⟩ := achieved_mem (compareValue_le T p)
  exact fxWord_toInt_of_mem h0 h100

/-- R124: the three registers a driven duty leaves, as numbers: the timer's compare value is the quantized one, `RCMP`
is that register, and `RACH` is its achieved percentage. -/
theorem driveDuty_values (p : Int) (s : State) :
    (driveDuty p s).pwmcmp.toNat = compareValue s.pwmtop.toNat p ∧
      (driveDuty p s).rcmp = (driveDuty p s).pwmcmp ∧
      (driveDuty p s).rach.toInt = achieved s.pwmtop.toNat (compareValue s.pwmtop.toNat p) :=
  ⟨ofNat_compareValue_toNat s.pwmtop p, rfl, fxWord_achieved_toInt s.pwmtop.toNat p⟩

/-- R124: the top count is mutated by PWMCFG only. -/
theorem driveDuty_pwmtop (p : Int) (s : State) : (driveDuty p s).pwmtop = s.pwmtop := by
  rw [driveDuty_eq]

/-- R120: PWMCFG configures the channel when the top count fits. -/
theorem exec_pwmcfg_of_fits {s : State}
    (h : TopFits s.freq.toNat s.clk.toNat (divider s.params.pwmPrescaler) (widthBits s.params.pwmBits)) :
    exec .pwmcfg s = .next (raise .ok (configurePwm
      (BitVec.ofNat 16 (topQuotient s.freq.toNat s.clk.toNat (divider s.params.pwmPrescaler) - 1)) s)) := by
  rw [exec, execPwmcfg, opF, opC, computeTop_of_fits h]

/-- R122: PWMCFG only reports a top count that does not fit. -/
theorem exec_pwmcfg_of_not_fits {s : State}
    (h : ¬ TopFits s.freq.toNat s.clk.toNat (divider s.params.pwmPrescaler) (widthBits s.params.pwmBits)) :
    exec .pwmcfg s = .next (raise .overflow s) := by
  rw [exec, execPwmcfg, opF, opC, computeTop_of_not_fits h]

/-- R124: PWMDUTY drives the request on a configured channel. -/
theorem exec_pwmduty_of_configured {s : State} (h : s.pwmConfigured = true) :
    exec .pwmduty s = .next (raise .ok (driveDuty s.pct.toInt s)) := by
  obtain ⟨_, e⟩ := (execPwmduty_cases s).resolve_left (by simp [h])
  exact e

/-- R126: PWMDUTY only reports a channel that is not configured. -/
theorem exec_pwmduty_of_unconfigured {s : State} (h : s.pwmConfigured = false) :
    exec .pwmduty s = .next (raise .notConfigured s) := by
  obtain ⟨_, e⟩ := (execPwmduty_cases s).resolve_right (by simp [h])
  exact e

/-! ## The obligations on PwmChannel -/

/-- Settles O27: the two arms of `computeTop`, and an accepted top count fits its counter and its register. -/
theorem pwmcfgCommandResult : Obligations.PwmcfgCommandResult := by
  rintro s P b r rfl rfl rfl
  refine ⟨fun h => ⟨?next, ofNat_topQuotient_toNat h, computeTop_le (computeTop_of_fits h)⟩, exec_pwmcfg_of_not_fits⟩
  case next => rw [exec_pwmcfg_of_fits h, configurePwm_eq, raise]

/-- Settles O29: nothing is lost in the registers, so `RACH` differs from the duty produced by its one rounding. -/
theorem pwmdutyReportsTheDutyProduced : Obligations.PwmdutyReportsTheDutyProduced := by
  intro s h
  obtain ⟨hcmp, hrcmp, hrach⟩ := driveDuty_values s.pct.toInt s
  refine ⟨_, exec_pwmduty_of_configured h, ?_⟩
  simp only [raise_pwmcmp, raise_pwmtop, raise_rcmp, raise_rach, driveDuty_pwmtop, hcmp, hrach]
  exact ⟨compareValue_le _ _, hrcmp, achieved_nearest _ _⟩

/-- Settles O28: the two arms of PWMDUTY, the driven one as `afterDuty` spells it out. -/
theorem pwmdutyCommandResult : Obligations.PwmdutyCommandResult := by
  intro s
  constructor
  · intro h
    rw [exec_pwmduty_of_configured h, driveDuty_eq_afterDuty, raise]
  · exact exec_pwmduty_of_unconfigured

end Sys2Proof.Machine

/-! ## The command of PeriodicTimer (R140 to R142) -/

namespace Sys2Proof.Machine

/-- R140: TICKCFG configures the timer when the top count fits. -/
theorem exec_tickcfg_of_fits {s : State}
    (h : TopFits s.freq.toNat s.clk.toNat (divider s.params.tickPrescaler) (widthBits s.params.tickBits)) :
    exec .tickcfg s = .next (raise .ok (configureTick
      (BitVec.ofNat 16 (topQuotient s.freq.toNat s.clk.toNat (divider s.params.tickPrescaler) - 1)) s)) := by
  rw [exec, execTickcfg, opF, opC, computeTop_of_fits h]

/-- R140: TICKCFG only reports a top count that does not fit. -/
theorem exec_tickcfg_of_not_fits {s : State}
    (h : ¬ TopFits s.freq.toNat s.clk.toNat (divider s.params.tickPrescaler) (widthBits s.params.tickBits)) :
    exec .tickcfg s = .next (raise .overflow s) := by
  rw [exec, execTickcfg, opF, opC, computeTop_of_not_fits h]

/-- The outside sees a configured tick timer with its notification enabled (R38, R141). -/
def TickOn (o : Outputs) : Prop := o.tickMode.isSome = true ∧ o.tickArmed = true

/-- R38: the two flags of `TICKCTL` show it. -/
theorem tickOn_shownOutputs_iff (s : State) :
    TickOn (shownOutputs s) ↔ s.tickConfigured = true ∧ s.tickIen = true := by
  unfold TickOn shownOutputs
  cases s.tickConfigured <;> simp

/-- R141: HBC has no event that stops or disarms the timer. -/
theorem TickOn.tell {o : Outputs} (h : TickOn o) (e : OutEvent) : TickOn (o.tell e) := by
  obtain ⟨hmode, harmed⟩ := h
  cases e with
  | tickMode psel => exact ⟨rfl, harmed⟩
  | tickIen => exact ⟨hmode, rfl⟩
  | _ => exact ⟨hmode, harmed⟩

/-- R141: whatever is told from `s` to `t`, both flags stay set. -/
theorem Tells.tick_stays_armed {es : List OutEvent} {s t : State} (h : Tells es s t) (hconf : s.tickConfigured = true)
    (hien : s.tickIen = true) : t.tickConfigured = true ∧ t.tickIen = true := by
  have hs : TickOn (shownOutputs s) := (tickOn_shownOutputs_iff s).2 ⟨hconf, hien⟩
  rw [← tickOn_shownOutputs_iff, h.shown]
  exact List.foldlRecOn es Outputs.tell hs fun _ ho e _ => ho.tell e

/-! ## The obligations on PeriodicTimer -/

/-- Settles O30: the two arms of `computeTop`, and an accepted top count fits its counter and its register. -/
theorem tickcfgCommandResult : Obligations.TickcfgCommandResult := by
  rintro s P b r rfl rfl rfl
  refine ⟨fun h => ⟨?next, ofNat_topQuotient_toNat h, computeTop_le (computeTop_of_fits h)⟩, exec_tickcfg_of_not_fits⟩
  case next => rw [exec_tickcfg_of_fits h, configureTick_eq, raise]

/-- Settles O31: TICKCFG sets both flags, and the registers follow the told events, none of which clears a flag. -/
theorem tickStaysArmedUntilReset : Obligations.TickStaysArmedUntilReset := by
  constructor
  · intro s h
    refine ⟨_, exec_tickcfg_of_fits h, ?_⟩
    rw [configureTick_eq]
    exact ⟨rfl, rfl, ofNat_toNat_le (computeTop_le (computeTop_of_fits h))⟩
  · intro s hreset hconf hien
    obtain ⟨t, es, ht, htells, _⟩ := step_tells s hreset
    exact ⟨t, ht, htells.tick_stays_armed hconf hien⟩

end Sys2Proof.Machine

/-! ## Which state a cycle reports (R152 to R158) -/

namespace Sys2Proof.Machine

/-- R153: the least reading by what the rule says of it. -/
theorem least_eq_iff {ts : List Int} (h : ts ≠ []) (m : Int) : least ts = m ↔ m ∈ ts ∧ ∀ x ∈ ts, m ≤ x := by
  obtain ⟨hmem, hle⟩ := least_spec h
  constructor
  · rintro rfl
    exact ⟨hmem, hle⟩
  · rintro ⟨hm, hbound⟩
    exact le_antisymm (hle m hm) (hbound _ hmem)

/-- R153: the greatest reading is the one that bounds the others. -/
theorem greatest_eq {ts : List Int} {m : Int} (hm : m ∈ ts) (hbound : ∀ x ∈ ts, x ≤ m) : greatest ts = m := by
  obtain ⟨hmem, hle⟩ := greatest_spec (List.ne_nil_of_mem hm)
  exact le_antisymm (hbound _ hmem) (hle m hm)

/-- R154: the greatest reading reaches a threshold when some reading does. -/
theorem le_greatest_iff {ts : List Int} (h : ts ≠ []) (k : Int) : k ≤ greatest ts ↔ ∃ x ∈ ts, k ≤ x := by
  obtain ⟨hmem, hle⟩ := greatest_spec h
  constructor
  · exact fun hk => ⟨_, hmem, hk⟩
  · rintro ⟨x, hx, hk⟩
    exact hk.trans (hle x hx)

/-- R154: the greatest reading is below a threshold when every reading is. -/
theorem greatest_lt_iff {ts : List Int} (h : ts ≠ []) (k : Int) : greatest ts < k ↔ ∀ x ∈ ts, x < k := by
  rw [← not_le, le_greatest_iff h]
  push Not
  rfl

/-- R154: the thresholds, the upper one first. -/
theorem classifyMax_cases (c : Cfg) (mx : Int) :
    (c.tmax.toInt ≤ mx ∧ classifyMax c mx = .hot) ∨
      (mx < c.tmax.toInt ∧ c.tmax.toInt - c.delta.toInt ≤ mx ∧ classifyMax c mx = .warm) ∨
      (mx < c.tmax.toInt ∧ mx < c.tmax.toInt - c.delta.toInt ∧ classifyMax c mx = .cold) := by
  unfold classifyMax lowerThreshold fxInt
  split
  case isTrue hhot => exact .inl ⟨hhot, rfl⟩
  case isFalse hhot =>
    split
    case isTrue hwarm => exact .inr (.inl ⟨by omega, hwarm, rfl⟩)
    case isFalse hwarm => exact .inr (.inr ⟨by omega, by omega, rfl⟩)

theorem classifyMax_eq_hot_iff (c : Cfg) (mx : Int) : classifyMax c mx = .hot ↔ c.tmax.toInt ≤ mx := by
  rcases classifyMax_cases c mx with ⟨_, e⟩ | ⟨_, _, e⟩ | ⟨_, _, e⟩ <;> simp [e] <;> omega

theorem classifyMax_eq_warm_iff (c : Cfg) (mx : Int) :
    classifyMax c mx = .warm ↔ mx < c.tmax.toInt ∧ c.tmax.toInt - c.delta.toInt ≤ mx := by
  rcases classifyMax_cases c mx with ⟨_, e⟩ | ⟨_, _, e⟩ | ⟨_, _, e⟩ <;> simp [e] <;> omega

theorem classifyMax_eq_cold_iff (c : Cfg) (mx : Int) :
    classifyMax c mx = .cold ↔ mx < c.tmax.toInt ∧ mx < c.tmax.toInt - c.delta.toInt := by
  rcases classifyMax_cases c mx with ⟨_, e⟩ | ⟨_, _, e⟩ | ⟨_, _, e⟩ <;> simp [e] <;> omega

theorem classifyMax_ne_error (c : Cfg) (mx : Int) : classifyMax c mx ≠ .error := by
  rcases classifyMax_cases c mx with ⟨_, e⟩ | ⟨_, _, e⟩ | ⟨_, _, e⟩ <;> simp [e]

/-! ### The snapshot in the registers -/

/-- R153: the least of the used readings is the value of a disconnected sensor. -/
def SentinelIsLeast (s : State) : Prop :=
  s.cfg.sentinel.toInt ∈ usedReadings s ∧ ∀ x ∈ usedReadings s, s.cfg.sentinel.toInt ≤ x

/-- R152, R153: the snapshot passes the count check and the disconnect check. -/
structure ValidSnapshot (s : State) : Prop where
  pos : 0 < s.nsens.toNat
  le_maxsens : s.nsens.toNat ≤ s.cfg.maxsens.toNat
  connected : ¬ SentinelIsLeast s

theorem usedReadings_ne_nil {s : State} (h : 0 < s.nsens.toNat) : usedReadings s ≠ [] :=
  take_readings_ne_nil s (by omega)

theorem sentinelIsLeast_iff {s : State} (h : 0 < s.nsens.toNat) :
    SentinelIsLeast s ↔ least (snapshot s) = fxInt s.cfg.sentinel :=
  (least_eq_iff (usedReadings_ne_nil h) _).symm

/-- R152: the count check. -/
theorem cycleState_of_count {s : State} (h : s.nsens.toNat = 0 ∨ s.cfg.maxsens.toNat < s.nsens.toNat) :
    cycleState s = .error :=
  if_pos h

/-- R153: the disconnect check, whatever the count is. -/
theorem cycleState_of_sentinel {s : State} (h : SentinelIsLeast s) : cycleState s = .error := by
  rcases classify_cases s.cfg (sensorCount s) (readings s) with ⟨_, e⟩ | ⟨_, _, _, e⟩ | ⟨hpos, _, hne, _⟩
  · exact e
  · exact e
  · exact absurd ((sentinelIsLeast_iff hpos).1 h) hne

/-- R154: a snapshot that passes both checks is held to the thresholds. -/
theorem ValidSnapshot.cycleState_eq {s : State} (h : ValidSnapshot s) :
    cycleState s = classifyMax s.cfg (greatest (usedReadings s)) := by
  have hpos := h.pos
  have hmax := h.le_maxsens
  rcases classify_cases s.cfg (sensorCount s) (readings s) with ⟨hcount, _⟩ | ⟨_, _, hleast, _⟩ | ⟨_, _, _, e⟩
  · unfold sensorCount at hcount
    omega
  · exact absurd ((sentinelIsLeast_iff hpos).2 hleast) h.connected
  · exact e

/-- R152, R153: nothing but a failed check makes an ERROR cycle. -/
theorem validSnapshot_of_ne_error {s : State} (h : cycleState s ≠ .error) : ValidSnapshot s where
  pos := Nat.pos_of_ne_zero fun h0 => h (cycleState_of_count (.inl h0))
  le_maxsens := not_lt.1 fun hlt => h (cycleState_of_count (.inr hlt))
  connected := mt cycleState_of_sentinel h

section ValidSnapshot

variable {s : State} (h : ValidSnapshot s)

include h

theorem ValidSnapshot.hot_iff : cycleState s = .hot ↔ ∃ x ∈ usedReadings s, s.cfg.tmax.toInt ≤ x := by
  rw [h.cycleState_eq, classifyMax_eq_hot_iff, le_greatest_iff (usedReadings_ne_nil h.pos)]

theorem ValidSnapshot.warm_iff :
    cycleState s = .warm ↔ (∀ x ∈ usedReadings s, x < s.cfg.tmax.toInt) ∧
      ∃ x ∈ usedReadings s, s.cfg.tmax.toInt - s.cfg.delta.toInt ≤ x := by
  rw [h.cycleState_eq, classifyMax_eq_warm_iff, greatest_lt_iff (usedReadings_ne_nil h.pos),
    le_greatest_iff (usedReadings_ne_nil h.pos)]

theorem ValidSnapshot.cold_iff :
    cycleState s = .cold ↔
      ∀ x ∈ usedReadings s, x < s.cfg.tmax.toInt ∧ x < s.cfg.tmax.toInt - s.cfg.delta.toInt := by
  rw [h.cycleState_eq, classifyMax_eq_cold_iff, greatest_lt_iff (usedReadings_ne_nil h.pos),
    greatest_lt_iff (usedReadings_ne_nil h.pos), ← forall₂_and]

theorem ValidSnapshot.ne_error : cycleState s ≠ .error :=
  h.cycleState_eq ▸ classifyMax_ne_error _ _

end ValidSnapshot

/-- R158: no reading is below `tmax` and at or above `tmax - delta` when `delta` is not positive. -/
theorem cycleState_ne_warm {s : State} (hdelta : s.cfg.delta.toInt ≤ 0) : cycleState s ≠ .warm := by
  intro hwarm
  have hvalid : ValidSnapshot s := validSnapshot_of_ne_error (by simp [hwarm])
  obtain ⟨hbelow, x, hx, hreach⟩ := hvalid.warm_iff.1 hwarm
  have hlt := hbelow x hx
  omega

/-- R150: a cycle reports the classified state. -/
theorem finishCycle_cstate (st : ControlState) (r : State × StatusCode) : (finishCycle st r).cstate = some st := rfl

/-! ### The obligations on the reported state -/

/-- Settles O32: the count check and the disconnect check, then the thresholds on a valid snapshot. -/
theorem cycleReportsTheClassifiedState : Obligations.CycleReportsTheClassifiedState := by
  intro s
  refine ⟨_, exec_cycle s, finishCycle_cstate _ _, cycleState_of_count, fun hpos hmax => ⟨?sentinel, ?thresholds⟩⟩
  case sentinel => exact fun hmem hle => cycleState_of_sentinel ⟨hmem, hle⟩
  case thresholds =>
    intro hconn
    have hvalid : ValidSnapshot s := ⟨hpos, hmax, hconn⟩
    exact ⟨hvalid.hot_iff.2, fun hbelow hreach => hvalid.warm_iff.2 ⟨hbelow, hreach⟩, hvalid.cold_iff.2⟩

/-- Settles O39: the classifier is given the count, the used readings and `cfg` only. -/
theorem classificationIsMemoryless : Obligations.ClassificationIsMemoryless := by
  intro s₁ s₂ hcfg hnsens hused
  refine ⟨_, _, exec_cycle s₁, exec_cycle s₂, ?_⟩
  rw [finishCycle_cstate, finishCycle_cstate, cycleState_agree hcfg hnsens hused]

/-- Settles O40: the band between the thresholds is empty, and a valid snapshot is no ERROR. -/
theorem emptyBandIsNeverWarm : Obligations.EmptyBandIsNeverWarm := by
  intro s hdelta
  have hwarm := cycleState_ne_warm hdelta
  refine ⟨_, exec_cycle s, by simpa [finishCycle_cstate] using hwarm, fun hpos hmax hconn => ?_⟩
  have hvalid : ValidSnapshot s := ⟨hpos, hmax, hconn⟩
  have herror := hvalid.ne_error
  rw [finishCycle_cstate]
  cases hst : cycleState s with
  | hot => exact .inl rfl
  | cold => exact .inr rfl
  | warm => exact absurd hst hwarm
  | error => exact absurd hst herror

/-- Settles O38: the consumed snapshot has no readings, so the next cycle fails the count check. -/
theorem snapshotIsConsumed : Obligations.SnapshotIsConsumed := by
  intro s
  have hsentinel : (act (cycleState s) s).1.cfg.sentinel = s.cfg.sentinel := by rw [act_cfg]
  refine ⟨_, _, exec_cycle s, rfl, hsentinel, hsentinel, hsentinel, hsentinel, hsentinel, exec_cycle _, ?_⟩
  rw [finishCycle_cstate, cycleState_of_count (.inl rfl)]

end Sys2Proof.Machine

/-! ## The WARM duty (R159, R160) -/

namespace Sys2Proof.Machine

/-- R160: the ramp is a mean of `minfan` and 100 %, weighted by the distances to the two thresholds. -/
theorem ramp_mem (m H : Int) {B D : Int} (hB : 0 ≤ B) (hBD : B ≤ D) :
    min m H * D ≤ H * D - (H - m) * B ∧ H * D - (H - m) * B ≤ max m H * D := by
  have hmean : H * D - (H - m) * B = H * (D - B) + m * B := by ring
  have hweight : 0 ≤ D - B := by omega
  rw [hmean]
  constructor
  · calc min m H * D = min m H * (D - B) + min m H * B := by ring
      _ ≤ H * (D - B) + m * B := by gcongr <;> simp
  · calc H * (D - B) + m * B ≤ max m H * (D - B) + max m H * B := by gcongr <;> simp
      _ = max m H * D := by ring

/-- R11: a quotient between two whole numbers is still between them when rounded. -/
theorem rnd_mem {n d lo hi : Int} (hd : 0 < d) (hlo : lo * d ≤ n) (hhi : n ≤ hi * d) : lo ≤ rnd n d ∧ rnd n d ≤ hi :=
  ⟨rnd_mul_self lo d hd ▸ rnd_mono hd hlo, rnd_mul_self hi d hd ▸ rnd_mono hd hhi⟩

/-- R9: what the FX container holds whole. -/
theorem fxWord_toInt_of_le {r : Int} (hlo : -2 ^ 31 ≤ r) (hhi : r < 2 ^ 31) : (fxWord r).toInt = r := by
  rw [fxWord, BitVec.toInt_ofInt]
  exact Int.bmod_eq_of_le (by omega) (by omega)

/-- R160: the largest intermediate, for a duty that fits FX and a band width that does. -/
theorem abs_rampNumerator_lt {n lo hi D : Int} (hD : 0 ≤ D) (hDfits : D < 2 ^ 31) (hlo : -2 ^ 31 ≤ lo)
    (hhi : hi < 2 ^ 31) (hl : lo * D ≤ n) (hu : n ≤ hi * D) : |2 * n + D| < 2 ^ 65 := by
  have hlower : -2 ^ 31 * D ≤ lo * D := by gcongr
  have hupper : hi * D ≤ 2 ^ 31 * D := by gcongr
  rw [abs_lt]
  omega

/-- Settles O41: the numerator lies between `minfan` and 100 % of the band width, and is rounded once. -/
theorem warmDutyIsTheRamp : Obligations.WarmDutyIsTheRamp := by
  intro c mx hmin hmax
  have hD : 0 < c.delta.toInt := by omega
  have hDfits : c.delta.toInt < 2 ^ 31 := BitVec.toInt_lt
  have hfanlo : -2 ^ 31 ≤ c.minfan.toInt := BitVec.le_toInt c.minfan
  have hfanhi : c.minfan.toInt < 2 ^ 31 := BitVec.toInt_lt
  have hminfits : -2 ^ 31 ≤ min c.minfan.toInt 6553600 := le_min hfanlo (by decide)
  have hmaxfits : max c.minfan.toInt 6553600 < 2 ^ 31 := max_lt hfanhi (by decide)
  obtain ⟨hl, hu⟩ := ramp_mem c.minfan.toInt 6553600 (B := c.tmax.toInt - mx) (D := c.delta.toInt) (by omega) (by omega)
  obtain ⟨hlo, hhi⟩ : min c.minfan.toInt 6553600 ≤ warmDuty c mx ∧ warmDuty c mx ≤ max c.minfan.toInt 6553600 :=
    rnd_mem hD hl hu
  refine ⟨hlo, hhi, rnd_nearest _ hD, ?atMin, fxWord_toInt_of_le (hminfits.trans hlo) (hhi.trans_lt hmaxfits),
    abs_rampNumerator_lt hD.le hDfits hminfits hmaxfits hl hu⟩
  case atMin =>
    rintro rfl
    calc warmDuty c (c.tmax.toInt - c.delta.toInt) = rnd (c.minfan.toInt * c.delta.toInt) c.delta.toInt := by
          unfold warmDuty fxInt; congr 1; ring
      _ = c.minfan.toInt := rnd_mul_self _ _ hD

end Sys2Proof.Machine

/-! ## What a cycle leaves in the registers (R157 to R169) -/

namespace Sys2Proof.Machine

/-- R157, R160, R161: the level of the fan enable in the action of a state that is no ERROR. -/
def fanLevel : ControlState → Bool
  | .cold => false
  | _ => true

/-- R157, R160, R161: the duty that action requests. -/
def requestedDuty : ControlState → State → Int
  | .warm, s => warmDuty s.cfg (greatest (snapshot s))
  | _, _ => HUNDRED

/-- The state that action hands to the channel: counter, fan enable and request written (R157, R162). -/
def afterRequest (st : ControlState) (s : State) : State :=
  { s with
    errcnt := 0#8, fanEn := fanLevel st, dutyreq := fxWord (requestedDuty st s)
    trace := s.trace ++ [.fanEn (fanLevel st)] }

theorem act_of_ne_error {st : ControlState} (h : st ≠ .error) (s : State) :
    act st s = applyDuty (requestedDuty st s) (driveFan (fanLevel st) (setErrcnt 0#8 s)) := by
  cases st with
  | error => exact absurd rfl h
  | _ => rfl

/-- R157, R162: the writes before the channel, as one update. -/
theorem setDutyreq_eq_afterRequest (st : ControlState) (s : State) :
    setDutyreq (fxWord (requestedDuty st s)) (driveFan (fanLevel st) (setErrcnt 0#8 s)) = afterRequest st s := rfl

/-- R150, R168: the report and the consumption, as the statements spell them out. -/
theorem finishCycle_eq_afterCycle (st : ControlState) (s : State) (code : StatusCode) :
    finishCycle st (s, code) = afterCycle st code s := rfl

/-- R162: a cycle that is no ERROR cycle drives its request on a configured channel. -/
theorem exec_cycle_of_configured {s : State} {st : ControlState} (hst : cycleState s = st) (hne : st ≠ .error)
    (hconf : s.pwmConfigured = true) :
    exec .cycle s = .next (afterCycle st .ok (afterDuty (requestedDuty st s) (afterRequest st s))) := by
  rw [exec_cycle, hst, act_of_ne_error hne, applyDuty, driveFan_pwmConfigured, setErrcnt_pwmConfigured, if_pos hconf,
    setDutyreq_eq_afterRequest, driveDuty_eq_afterDuty, finishCycle_eq_afterCycle]

/-- R166: on a channel that is not configured it only records the request. -/
theorem exec_cycle_of_unconfigured {s : State} {st : ControlState} (hst : cycleState s = st) (hne : st ≠ .error)
    (hconf : s.pwmConfigured = false) :
    exec .cycle s = .next (afterCycle st .notConfigured (afterRequest st s)) := by
  rw [exec_cycle, hst, act_of_ne_error hne, dutyAction_of_unconfigured hconf, finishCycle_eq_afterCycle, afterRequest]

/-- R157, R161: a request of 100 % drives the compare value to the top count. -/
theorem afterDuty_hundred (s : State) :
    afterDuty HUNDRED s =
      { s with
        pwmcmp := s.pwmtop, rcmp := s.pwmtop, rach := 0x00640000#32, trace := s.trace ++ [.pwmCmp s.pwmtop] } := by
  rw [← driveDuty_eq_afterDuty, driveDuty, computeCompare_hundred, channelTop, BitVec.ofNat_toNat, BitVec.setWidth_eq]
  rfl

/-- R157, R161: a cycle at 100 % on a configured channel. -/
theorem exec_cycle_hundred {s : State} {st : ControlState} (hst : cycleState s = st) (hne : st ≠ .error)
    (hduty : requestedDuty st s = HUNDRED) (hconf : s.pwmConfigured = true) :
    exec .cycle s =
      .next { afterCycle st .ok s with
        errcnt := 0#8, fanEn := fanLevel st, dutyreq := 0x00640000#32
        pwmcmp := s.pwmtop, rcmp := s.pwmtop, rach := 0x00640000#32
        trace := s.trace ++ [.fanEn (fanLevel st), .pwmCmp s.pwmtop] } := by
  rw [exec_cycle_of_configured hst hne hconf, hduty, afterDuty_hundred, afterRequest, hduty, List.append_assoc]
  rfl

/-- R163: an ERROR cycle within the limit. -/
theorem exec_cycle_of_count {s : State} (hst : cycleState s = .error)
    (h : s.errcnt.toNat + 1 ≤ s.cfg.maxerr.toNat) :
    exec .cycle s =
      .next { afterCycle .error .ok s with
        errcnt := BitVec.ofNat 8 (s.errcnt.toNat + 1), errInd := false, trace := s.trace ++ alarm } := by
  rw [exec_cycle, hst, act, actError_of_count h]
  rfl

/-- R163: an ERROR cycle past the limit. -/
theorem exec_cycle_of_trip {s : State} (hst : cycleState s = .error) (h : s.cfg.maxerr.toNat < s.errcnt.toNat + 1) :
    exec .cycle s =
      .next { afterCycle .error .ok s with
        errcnt := 0#8, fanEn := false, errInd := false, trace := s.trace ++ (.fanEn false :: alarm) } := by
  rw [exec_cycle, hst, act, actError_of_trip h]
  rfl

/-! ### The obligations on one cycle -/

/-- Settles O33: HOT drives 100 % with the fan enabled. -/
theorem hotCycleResult : Obligations.HotCycleResult := by
  intro s hst
  exact ⟨exec_cycle_hundred hst (by decide) rfl, exec_cycle_of_unconfigured hst (by decide)⟩

/-- Settles O34: the greatest reading is `mx`, and the formula of the duty is `warmDuty`'s. -/
theorem warmCycleResult : Obligations.WarmCycleResult := by
  rintro s mx A B D d hst hmem hbound rfl rfl rfl rfl
  obtain rfl : greatest (usedReadings s) = mx := greatest_eq hmem hbound
  exact ⟨exec_cycle_of_configured hst (by decide), exec_cycle_of_unconfigured hst (by decide)⟩

/-- Settles O35: COLD drives 100 % too, with the fan disabled. -/
theorem coldCycleResult : Obligations.ColdCycleResult := by
  intro s hst
  exact ⟨exec_cycle_hundred hst (by decide) rfl, exec_cycle_of_unconfigured hst (by decide)⟩

/-- Settles O36: the counter within the limit and past it. -/
theorem errorCycleResult : Obligations.ErrorCycleResult := by
  intro s hst
  refine ⟨exec_cycle_of_count hst, fun h => ?_⟩
  rw [exec_cycle_of_trip hst h, List.append_assoc]
  rfl

/-- R169: what an ERROR cycle guarantees. -/
theorem errorCycle_guarantees {s : State} (hst : cycleState s = .error) :
    ∃ t es, exec .cycle s = .next t ∧ t.trace = s.trace ++ es ∧ t.cstate = some .error ∧ t.errInd = false ∧
      t.errcnt.toNat ≤ t.cfg.maxerr.toNat ∧ (es.length = 16 ∨ es.length = 17) := by
  by_cases hlimit : s.errcnt.toNat + 1 ≤ s.cfg.maxerr.toNat
  · exact ⟨_, _, exec_cycle_of_count hst hlimit, rfl, rfl, rfl, ofNat_toNat_le hlimit, .inl rfl⟩
  · exact ⟨_, _, exec_cycle_of_trip hst (by omega), rfl, rfl, rfl, Nat.zero_le _, .inr rfl⟩

/-- R169, R166: what every other cycle guarantees, on a configured channel and on an unconfigured one. -/
theorem dutyCycle_guarantees {s : State} (hne : cycleState s ≠ .error) :
    ∃ t es, exec .cycle s = .next t ∧ t.trace = s.trace ++ es ∧ t.cstate = some (cycleState s) ∧
      t.errInd = s.errInd ∧ t.errcnt = 0#8 ∧ t.fanEn = fanLevel (cycleState s) ∧
      (cycleState s ≠ .warm → s.pwmConfigured = true → t.pwmcmp = t.pwmtop) ∧
      es.length = if s.pwmConfigured then 2 else 1 := by
  cases hconf : s.pwmConfigured with
  | false => exact ⟨_, _, exec_cycle_of_unconfigured rfl hne hconf, rfl, rfl, rfl, rfl, rfl, by simp, rfl⟩
  | true =>
    refine ⟨_, _, exec_cycle_of_configured rfl hne hconf, List.append_assoc .., rfl, rfl, rfl, rfl, ?_, rfl⟩
    intro hwarm _
    have hduty : requestedDuty (cycleState s) s = HUNDRED := by
      cases hst : cycleState s with
      | warm => exact absurd hst hwarm
      | _ => rfl
    rw [hduty, afterDuty_hundred]
    rfl

/-- Settles O42: (a) and (b) by the classifier; the rest by the action, that of an ERROR cycle or a driven duty. -/
theorem cycleGuarantees : Obligations.CycleGuarantees := by
  intro s hlow
  by_cases hst : cycleState s = .error
  · obtain ⟨t, es, ht, htrace, hcstate, herr, hcnt, hlen⟩ := errorCycle_guarantees hst
    refine ⟨t, es, ht, htrace, ⟨_, hcstate⟩, ?_⟩
    simp only [hcstate]
    exact ⟨fun hpos hmax hconn => absurd hst (ValidSnapshot.mk hpos hmax hconn).ne_error, by simp, by simp, by simp,
      by simp, herr, hcnt, fun _ => hlen, by simp⟩
  · obtain ⟨t, es, ht, htrace, hcstate, herr, hcnt, hfan, hcmp, hlen⟩ := dutyCycle_guarantees hst
    refine ⟨t, es, ht, htrace, ⟨_, hcstate⟩, ?_⟩
    have hvalid := validSnapshot_of_ne_error hst
    simp only [hcstate, hfan, hcnt, Option.some.injEq, ne_eq]
    refine ⟨fun _ _ _ => ⟨hvalid.hot_iff, hvalid.warm_iff, hst⟩, ?fanOn, ?fanOff, fun _ => trivial, ?top,
      herr.trans hlow, Nat.zero_le _, fun h => absurd h hst, fun _ => hlen⟩
    case fanOn => rintro (h | h) <;> rw [h] <;> rfl
    case fanOff => intro h; rw [h]; rfl
    case top => rintro (h | h) <;> exact hcmp (by simp [h])

/-! ### Cycles in a row without a snapshot (R163, R168, R212) -/

/-- One more cycle at the end of a row. -/
theorem cycles_succ_of_next {k : Nat} {s t : State} (h : cycles k s = .next t) :
    cycles (k + 1) s = exec .cycle t := by
  induction k generalizing s with
  | zero =>
    cases h
    rw [cycles, exec_cycle]
    rfl
  | succ k ih =>
    rw [cycles, exec_cycle] at h ⊢
    exact ih h

/-- From `s` to `t` the host has run `k` ERROR cycles within the limit: they are counted and signalled, and neither the
fan nor the channel nor the duty registers are touched (R163, R164). -/
structure Counted (k : Nat) (s t : State) : Prop where
  cfg : t.cfg = s.cfg
  nsens : t.nsens = 0#8
  errcnt : t.errcnt.toNat = k
  fanEn : t.fanEn = s.fanEn
  pwmcmp : t.pwmcmp = s.pwmcmp
  dutyreq : t.dutyreq = s.dutyreq
  rcmp : t.rcmp = s.rcmp
  rach : t.rach = s.rach
  trace : t.trace = s.trace ++ (List.replicate k alarm).flatten

theorem Counted.cycleState_eq_error {k : Nat} {s t : State} (h : Counted k s t) : cycleState t = .error :=
  cycleState_of_count (.inl (by rw [h.nsens]; rfl))

/-- R163: one more cycle within the limit. -/
theorem Counted.succ {k : Nat} {s t : State} (h : Counted k s t) (hk : k + 1 ≤ s.cfg.maxerr.toNat) :
    ∃ u, exec .cycle t = .next u ∧ Counted (k + 1) s u := by
  have hlimit : t.errcnt.toNat + 1 ≤ t.cfg.maxerr.toNat := by rwa [h.errcnt, h.cfg]
  have hmax := s.cfg.maxerr.isLt
  refine ⟨_, exec_cycle_of_count h.cycleState_eq_error hlimit, ?_⟩
  exact
    { cfg := h.cfg, nsens := rfl
      errcnt := by rw [h.errcnt]; exact Nat.mod_eq_of_lt (by omega)
      fanEn := h.fanEn, pwmcmp := h.pwmcmp, dutyreq := h.dutyreq, rcmp := h.rcmp, rach := h.rach
      trace := by simp [h.trace, List.replicate_succ'] }

theorem cycles_counted {s : State} (hnsens : s.nsens = 0#8) (herrcnt : s.errcnt = 0#8) {k : Nat}
    (hk : k ≤ s.cfg.maxerr.toNat) : ∃ t, cycles k s = .next t ∧ Counted k s t := by
  induction k with
  | zero =>
    exact ⟨s, rfl,
      { cfg := rfl, nsens := hnsens, errcnt := by rw [herrcnt]; rfl, fanEn := rfl, pwmcmp := rfl, dutyreq := rfl
        rcmp := rfl, rach := rfl, trace := (List.append_nil _).symm }⟩
  | succ k ih =>
    obtain ⟨t, ht, hcounted⟩ := ih (by omega)
    rw [cycles_succ_of_next ht]
    exact hcounted.succ hk

/-- Settles O37: the cycles up to the limit count, and the next one starts past it. -/
theorem tripOnTheCycleAfterTheLimit : Obligations.TripOnTheCycleAfterTheLimit := by
  intro s hnsens herrcnt
  constructor
  · intro k hk
    obtain ⟨t, ht, h⟩ := cycles_counted hnsens herrcnt hk
    exact ⟨t, ht, h.errcnt, h.fanEn, h.pwmcmp, h.dutyreq, h.rcmp, h.rach, h.trace⟩
  · obtain ⟨t, ht, h⟩ := cycles_counted hnsens herrcnt le_rfl
    have htrip : t.cfg.maxerr.toNat < t.errcnt.toNat + 1 := by rw [h.errcnt, h.cfg]; omega
    rw [cycles_succ_of_next ht]
    exact ⟨_, exec_cycle_of_trip h.cycleState_eq_error htrip, rfl, rfl, h.pwmcmp, h.dutyreq, h.rcmp, h.rach,
      by simp [h.trace]⟩

end Sys2Proof.Machine

/-! ## HBC takes no exception: every act completes (R182) -/

namespace Sys2Proof.Machine

theorem exec_completes (i : Instr) (s : State) : ∃ t, exec i s = .next t := by
  obtain ⟨t, _, ht, _⟩ := exec_tells i s
  exact ⟨t, ht⟩

/-- Settles O10: a step that is no reset completes because its command or access does, and a reset by the bound of R7
on its configuration. -/
theorem everyActCompletes : Obligations.EveryActCompletes := by
  refine ⟨exec_completes, fun s => ?_⟩
  by_cases hreset : ∀ c rest, s.script ≠ .reset c :: rest
  · obtain ⟨t, _, ht, _⟩ := step_tells s hreset
    exact .inl ⟨t, ht⟩
  · push Not at hreset
    obtain ⟨c, rest, hs⟩ := hreset
    by_cases hc : c.WellFormed
    · exact .inl ⟨_, by rw [step_of_reset hs, hardReset, if_pos hc]⟩
    · exact .inr ⟨c, rest, hs, Nat.lt_of_not_le hc⟩

end Sys2Proof.Machine

/-! ## The status code a command ends with (R180, R184) -/

namespace Sys2Proof.Machine

/-- The code of a command that asks for a top count (R102, R103). -/
def topCode (F C P b : Nat) : StatusCode := if TopFits F C P b then .ok else .overflow

/-- The code of a command that drives the PWM channel (R126, R166). -/
def channelCode (configured : Bool) : StatusCode := if configured then .ok else .notConfigured

/-- The status code of a command by its row in R180, tied to `exec` by `exec_ends`. -/
def endCode : Instr → State → StatusCode
  | .top psel bw, s =>
    match prescOfCode psel with
    | none => .badOperand
    | some P => topCode s.freq.toNat s.clk.toNat (divider P) (widthBits (widthOfCode bw))
  | .cmp, _ => .ok
  | .pwmcfg, s => topCode s.freq.toNat s.clk.toNat (divider s.params.pwmPrescaler) (widthBits s.params.pwmBits)
  | .pwmduty, s => channelCode s.pwmConfigured
  | .tickcfg, s => topCode s.freq.toNat s.clk.toNat (divider s.params.tickPrescaler) (widthBits s.params.tickBits)
  | .cycle, s => if cycleState s = .error then .ok else channelCode s.pwmConfigured

/-! ### The two partial codes -/

theorem topCode_of_computeTop_ok {F C P b top : Nat} (h : computeTop F C P b = .ok top) : topCode F C P b = .ok :=
  if_pos ((exists_computeTop_eq_ok_iff F C P b).1 ⟨top, h⟩)

@[simp] theorem topCode_eq_overflow_iff (F C P b : Nat) : topCode F C P b = .overflow ↔ ¬ TopFits F C P b := by
  unfold topCode; split <;> simp [*]

theorem topCode_of_computeTop_overflow {F C P b : Nat} (h : computeTop F C P b = .overflow) :
    topCode F C P b = .overflow := by
  rw [topCode_eq_overflow_iff, ← exists_computeTop_eq_ok_iff, h]
  simp

/-- A top count is refused with `OVERFLOW` only. -/
theorem topCode_ne {code : StatusCode} (hok : code ≠ .ok) (hoverflow : code ≠ .overflow) (F C P b : Nat) :
    topCode F C P b ≠ code := by
  unfold topCode; split <;> [exact hok.symm; exact hoverflow.symm]

@[simp] theorem channelCode_eq_notConfigured_iff (b : Bool) : channelCode b = .notConfigured ↔ b = false := by
  cases b <;> simp [channelCode]

/-- The channel is refused with `NOT_CONFIGURED` only. -/
theorem channelCode_ne {code : StatusCode} (hok : code ≠ .ok) (hconf : code ≠ .notConfigured) (b : Bool) :
    channelCode b ≠ code := by
  cases b <;> [exact hconf.symm; exact hok.symm]

/-- A cycle fails with `NOT_CONFIGURED` only, as the channel does (R166). -/
theorem endCode_cycle_ne {code : StatusCode} (hok : code ≠ .ok) (hconf : code ≠ .notConfigured) (s : State) :
    endCode .cycle s ≠ code := by
  rw [endCode]; split <;> [exact hok.symm; exact channelCode_ne hok hconf _]

/-! ### The code of TOP -/

theorem endCode_top_of_reserved {psel : BitVec 3} (h : prescOfCode psel = none) (bw : BitVec 1) (s : State) :
    endCode (.top psel bw) s = .badOperand := by
  rw [endCode, h]

theorem endCode_top_of_legal {psel : BitVec 3} {P : Prescaler} (h : prescOfCode psel = some P) (bw : BitVec 1)
    (s : State) :
    endCode (.top psel bw) s = topCode s.freq.toNat s.clk.toNat (divider P) (widthBits (widthOfCode bw)) := by
  rw [endCode, h]

/-- R84: the rows of the divider table are the prescalers that the codes select. -/
theorem mem_dividerRows_iff (psel : BitVec 3) (P : Nat) :
    (psel.toNat, P) ∈ [(1, 1), (2, 8), (3, 64), (4, 256), (5, 1024)] ↔
      ∃ Q, prescOfCode psel = some Q ∧ divider Q = P := by
  refine ⟨prescOfCode_of_row, ?_⟩
  rintro ⟨Q, hQ, rfl⟩
  have hall : ∀ psel : BitVec 3, ∀ Q ∈ prescOfCode psel,
      (psel.toNat, divider Q) ∈ [(1, 1), (2, 8), (3, 64), (4, 256), (5, 1024)] := by decide
  exact hall psel Q hQ

/-- R85: the counter bits by the code, as the statements spell them out. -/
theorem widthBits_widthOfCode (bw : BitVec 1) : widthBits (widthOfCode bw) = if bw = 0#1 then 8 else 16 := by
  revert bw; decide

theorem endCode_top_eq_overflow_iff (psel : BitVec 3) (bw : BitVec 1) (s : State) :
    endCode (.top psel bw) s = .overflow ↔
      ∃ P, (psel.toNat, P) ∈ [(1, 1), (2, 8), (3, 64), (4, 256), (5, 1024)] ∧
        ¬ TopFits s.freq.toNat s.clk.toNat P (if bw = 0#1 then 8 else 16) := by
  simp only [mem_dividerRows_iff, ← widthBits_widthOfCode]
  cases hp : prescOfCode psel with
  | none => simp [endCode_top_of_reserved hp]
  | some Q => simp [endCode_top_of_legal hp]

theorem endCode_top_eq_badOperand_iff (psel : BitVec 3) (bw : BitVec 1) (s : State) :
    endCode (.top psel bw) s = .badOperand ↔ psel = 0#3 ∨ psel = 6#3 ∨ psel = 7#3 := by
  have hreserved : prescOfCode psel = none ↔ psel = 0#3 ∨ psel = 6#3 ∨ psel = 7#3 := by
    revert psel; decide
  rw [← hreserved]
  cases hp : prescOfCode psel with
  | none => simp [endCode_top_of_reserved hp]
  | some Q => simp [endCode_top_of_legal hp, topCode_ne]

theorem endCode_top_ne {code : StatusCode} (hok : code ≠ .ok) (hoverflow : code ≠ .overflow)
    (hbad : code ≠ .badOperand) (psel : BitVec 3) (bw : BitVec 1) (s : State) : endCode (.top psel bw) s ≠ code := by
  cases hp : prescOfCode psel with
  | none => exact endCode_top_of_reserved hp bw s ▸ hbad.symm
  | some P => exact endCode_top_of_legal hp bw s ▸ topCode_ne hok hoverflow _ _ _ _

/-! ### When a command ends with which code (R180) -/

theorem endCode_eq_overflow_iff (i : Instr) (s : State) :
    endCode i s = .overflow ↔
      (∃ psel bw P, i = .top psel bw ∧ (psel.toNat, P) ∈ [(1, 1), (2, 8), (3, 64), (4, 256), (5, 1024)] ∧
        ¬ TopFits s.freq.toNat s.clk.toNat P (if bw = 0#1 then 8 else 16)) ∨
      (i = .pwmcfg ∧
        ¬ TopFits s.freq.toNat s.clk.toNat (divider s.params.pwmPrescaler) (widthBits s.params.pwmBits)) ∨
      (i = .tickcfg ∧
        ¬ TopFits s.freq.toNat s.clk.toNat (divider s.params.tickPrescaler) (widthBits s.params.tickBits)) := by
  cases i with
  | top psel bw =>
    rw [endCode_top_eq_overflow_iff]
    constructor
    · rintro ⟨P, hP⟩
      exact .inl ⟨psel, bw, P, rfl, hP⟩
    · rintro (⟨_, _, P, ⟨⟩, hP⟩ | ⟨⟨⟩, _⟩ | ⟨⟨⟩, _⟩)
      exact ⟨P, hP⟩
  | cmp => simp [endCode]
  | pwmcfg => simp [endCode]
  | pwmduty => simp [endCode, channelCode_ne]
  | tickcfg => simp [endCode]
  | cycle => simp [endCode_cycle_ne]

theorem endCode_eq_notConfigured_iff (i : Instr) (s : State) :
    endCode i s = .notConfigured ↔
      s.pwmConfigured = false ∧ (i = .pwmduty ∨ (i = .cycle ∧ cycleState s ≠ .error)) := by
  cases i with
  | top psel bw => simp [endCode_top_ne]
  | cmp => simp [endCode]
  | pwmcfg => simp [endCode, topCode_ne]
  | pwmduty => simp [endCode]
  | tickcfg => simp [endCode, topCode_ne]
  | cycle => by_cases hst : cycleState s = .error <;> simp [endCode, hst]

theorem endCode_eq_badOperand_iff (i : Instr) (s : State) :
    endCode i s = .badOperand ↔ ∃ psel bw, i = .top psel bw ∧ (psel = 0#3 ∨ psel = 6#3 ∨ psel = 7#3) := by
  cases i with
  | top psel bw => simp [endCode_top_eq_badOperand_iff]
  | cmp => simp [endCode]
  | pwmcfg => simp [endCode, topCode_ne]
  | pwmduty => simp [endCode, channelCode_ne]
  | tickcfg => simp [endCode, topCode_ne]
  | cycle => simp [endCode_cycle_ne]

/-- R83: `ILLEGAL_CMD` is the code of no command. -/
theorem endCode_ne_illegalCmd (i : Instr) (s : State) : endCode i s ≠ .illegalCmd := by
  cases i with
  | top psel bw => simp [endCode_top_ne]
  | cmp => simp [endCode]
  | pwmcfg => simp [endCode, topCode_ne]
  | pwmduty => simp [endCode, channelCode_ne]
  | tickcfg => simp [endCode, topCode_ne]
  | cycle => simp [endCode_cycle_ne]

/-! ### The commands end with those codes -/

/-- The command `i` takes `s` to `t` with its code; one that does not succeed writes `STATUS` alone, unless it is a
CYCLE, which keeps the compare value and the quantizer's results (R122, R126, R166). -/
structure Ends (i : Instr) (s t : State) : Prop where
  status : t.status = endCode i s
  only : t.status ≠ .ok → i ≠ .cycle → t = { s with status := t.status }
  kept : t.status ≠ .ok → t.pwmcmp = s.pwmcmp ∧ t.rcmp = s.rcmp ∧ t.rach = s.rach

theorem Ends.of_ok {i : Instr} {s t : State} (ht : t.status = .ok) (h : endCode i s = .ok) : Ends i s t :=
  ⟨ht.trans h.symm, fun hne => absurd ht hne, fun hne => absurd ht hne⟩

theorem Ends.of_raise {i : Instr} {s : State} {code : StatusCode} (h : endCode i s = code) :
    Ends i s (raise code s) :=
  ⟨h.symm, fun _ _ => rfl, fun _ => ⟨rfl, rfl, rfl⟩⟩

theorem exec_cycle_ends (s : State) : ∃ t, exec .cycle s = .next t ∧ Ends .cycle s t := by
  by_cases hst : cycleState s = .error
  · exact ⟨_, exec_cycle s, .of_ok (by rw [hst]; rfl) (by rw [endCode, if_pos hst])⟩
  · have hcode : endCode .cycle s = channelCode s.pwmConfigured := by rw [endCode, if_neg hst]
    cases hconf : s.pwmConfigured with
    | false =>
      rw [hconf] at hcode
      exact ⟨_, exec_cycle_of_unconfigured rfl hst hconf, hcode.symm, fun _ hne => absurd rfl hne,
        fun _ => ⟨rfl, rfl, rfl⟩⟩
    | true =>
      rw [hconf] at hcode
      exact ⟨_, exec_cycle_of_configured rfl hst hconf, .of_ok rfl hcode⟩

theorem exec_ends (i : Instr) (s : State) : ∃ t, exec i s = .next t ∧ Ends i s t := by
  cases i with
  | top psel bw =>
    rcases execTop_cases psel bw s with ⟨hp, h⟩ | ⟨P, hp, htop, h⟩ | ⟨P, top, hp, htop, h⟩
    · exact ⟨_, h, .of_raise (endCode_top_of_reserved hp bw s)⟩
    · exact ⟨_, h, .of_raise ((endCode_top_of_legal hp bw s).trans (topCode_of_computeTop_overflow htop))⟩
    · exact ⟨_, h, .of_ok rfl ((endCode_top_of_legal hp bw s).trans (topCode_of_computeTop_ok htop))⟩
  | cmp => exact ⟨_, rfl, .of_ok rfl rfl⟩
  | pwmcfg =>
    rcases execPwmcfg_cases s with ⟨htop, h⟩ | ⟨top, htop, h⟩
    · exact ⟨_, h, .of_raise (topCode_of_computeTop_overflow htop)⟩
    · exact ⟨_, h, .of_ok rfl (topCode_of_computeTop_ok htop)⟩
  | pwmduty =>
    rcases execPwmduty_cases s with ⟨hconf, h⟩ | ⟨hconf, h⟩
    · exact ⟨_, h, .of_raise (by rw [endCode, hconf]; rfl)⟩
    · exact ⟨_, h, .of_ok rfl (by rw [endCode, hconf]; rfl)⟩
  | tickcfg =>
    rcases execTickcfg_cases s with ⟨htop, h⟩ | ⟨top, htop, h⟩
    · exact ⟨_, h, .of_raise (topCode_of_computeTop_overflow htop)⟩
    · exact ⟨_, h, .of_ok rfl (topCode_of_computeTop_ok htop)⟩
  | cycle => exact exec_cycle_ends s

/-- A command that is no CYCLE and fails with `code` writes nothing else. -/
theorem Ends.eq_of_status {i : Instr} {s t : State} {code : StatusCode} (h : Ends i s t) (ht : t.status = code)
    (hok : code ≠ .ok) (hi : i ≠ .cycle) : t = { s with status := code } := by
  subst ht
  exact h.only hok hi

/-- A code that no CYCLE ends with is the mark of another command. -/
theorem Ends.ne_cycle {i : Instr} {s t : State} {code : StatusCode} (h : Ends i s t) (ht : t.status = code)
    (hok : code ≠ .ok) (hconf : code ≠ .notConfigured) : i ≠ .cycle := by
  rintro rfl
  exact endCode_cycle_ne hok hconf s (h.status.symm.trans ht)

/-- R80, R83: the code `ILLEGAL_CMD` marks the words that are no command. -/
theorem runCommand_ends (w : Word) (s : State) :
    ∃ t, runCommand w s = .next t ∧ (t.status = .illegalCmd ↔ ¬ ∃ i, decode w = .instr i) ∧
      (t.status = .illegalCmd → t = { s with status := .illegalCmd }) := by
  rcases runCommand_cases w s with ⟨i, hi, h⟩ | ⟨why, hwhy, h⟩ <;> rw [h]
  · obtain ⟨t, ht, hends⟩ := exec_ends i s
    have hne : t.status ≠ .illegalCmd := hends.status ▸ endCode_ne_illegalCmd i s
    exact ⟨t, ht, iff_of_false hne (not_not_intro ⟨i, hi⟩), fun h => absurd h hne⟩
  · exact ⟨_, rfl, iff_of_true rfl (by simp [hwhy]), fun _ => rfl⟩

/-- Settles O44: a command ends with its `endCode`, whose rows are R180's. -/
theorem statusCodeOfEveryCommand : Obligations.StatusCodeOfEveryCommand := by
  refine ⟨⟨rfl, rfl, rfl, rfl, rfl⟩, runCommand_ends, fun i s => ?_⟩
  obtain ⟨t, ht, hends⟩ := exec_ends i s
  refine ⟨t, ht, ?overflow, fun h => ?overflowOnly, ?notConfigured, ?dutyOnly, ?cycleKeeps, ?badOperand,
    fun h => ?badOperandOnly, ?illegal⟩
  case overflow => rw [hends.status]; exact endCode_eq_overflow_iff i s
  case overflowOnly => exact hends.eq_of_status h (by decide) (hends.ne_cycle h (by decide) (by decide))
  case notConfigured => rw [hends.status]; exact endCode_eq_notConfigured_iff i s
  case dutyOnly =>
    rintro h rfl
    exact hends.eq_of_status h (by decide) (by decide)
  case cycleKeeps => exact fun h _ => hends.kept (by simp [h])
  case badOperand => rw [hends.status]; exact endCode_eq_badOperand_iff i s
  case badOperandOnly => exact hends.eq_of_status h (by decide) (hends.ne_cycle h (by decide) (by decide))
  case illegal => rw [hends.status]; exact endCode_ne_illegalCmd i s

end Sys2Proof.Machine

/-! ## How long a command blocks the bus (R213 to R215) -/

namespace Sys2Proof.Machine

/-- R215: an event other than `Delay` takes no stated time. -/
theorem blockedEighths_cons_of_ne (c : Cfg) {e : OutEvent} (he : e ≠ .delay) (es : List OutEvent) :
    blockedEighths c (e :: es) = blockedEighths c es := by
  rw [blockedEighths, List.filter_cons_of_neg (by simpa using he), blockedEighths]

/-- R215: events without a `Delay` do not block. -/
theorem blockedEighths_of_not_mem (c : Cfg) {es : List OutEvent} (h : .delay ∉ es) : blockedEighths c es = 0 := by
  induction es with
  | nil => simp [blockedEighths]
  | cons e es ih =>
    obtain ⟨hne, hes⟩ : .delay ≠ e ∧ .delay ∉ es := by simpa using h
    rw [blockedEighths_cons_of_ne c hne.symm, ih hes]

/-- R213, R214: the alarm holds eight `Delay`s of one eighth of the period. -/
theorem blockedEighths_alarm (c : Cfg) : blockedEighths c alarm = 8 * c.cyclePeriod := rfl

/-- R163, R164: an ERROR cycle blocks for its alarm; the trip's `FanEn` takes no time. -/
theorem exec_cycle_blocks_of_error {s : State} (hst : cycleState s = .error) :
    ∃ t es, exec .cycle s = .next t ∧ t.trace = s.trace ++ es ∧
      blockedEighths s.cfg es = 8 * s.cfg.cyclePeriod := by
  by_cases hlimit : s.errcnt.toNat + 1 ≤ s.cfg.maxerr.toNat
  · exact ⟨_, alarm, exec_cycle_of_count hst hlimit, rfl, blockedEighths_alarm _⟩
  · refine ⟨_, .fanEn false :: alarm, exec_cycle_of_trip hst (by omega), rfl, ?_⟩
    rw [blockedEighths_cons_of_ne _ (by decide), blockedEighths_alarm]

/-- R157, R160 to R162, R166: any other cycle tells the fan enable and, on a configured channel, the compare value. -/
theorem exec_cycle_without_delay {s : State} (hne : cycleState s ≠ .error) :
    ∃ t es, exec .cycle s = .next t ∧ t.trace = s.trace ++ es ∧ .delay ∉ es := by
  cases hconf : s.pwmConfigured with
  | false => exact ⟨_, _, exec_cycle_of_unconfigured rfl hne hconf, rfl, by simp⟩
  | true => exact ⟨_, _, exec_cycle_of_configured rfl hne hconf, List.append_assoc .., by simp⟩

/-- Only the alarm of an ERROR cycle holds a `Delay` (R51, R164). -/
theorem exec_without_delay {i : Instr} {s : State} (h : ¬ (i = .cycle ∧ cycleState s = .error)) :
    ∃ t es, exec i s = .next t ∧ t.trace = s.trace ++ es ∧ .delay ∉ es := by
  cases i with
  | top psel bw =>
    rcases execTop_cases psel bw s with ⟨_, e⟩ | ⟨_, _, _, e⟩ | ⟨_, _, _, _, e⟩ <;>
      exact ⟨_, [], e, (List.append_nil _).symm, List.not_mem_nil⟩
  | cmp => exact ⟨_, [], rfl, (List.append_nil _).symm, List.not_mem_nil⟩
  | pwmcfg =>
    rcases execPwmcfg_cases s with ⟨_, e⟩ | ⟨_, _, e⟩
    · exact ⟨_, _, e, (tells_raise _ s).trace, List.not_mem_nil⟩
    · exact ⟨_, _, e, ((tells_configurePwm _ s).trans (tells_raise _ _)).trace, by simp⟩
  | pwmduty =>
    rcases execPwmduty_cases s with ⟨_, e⟩ | ⟨_, e⟩
    · exact ⟨_, _, e, (tells_raise _ s).trace, List.not_mem_nil⟩
    · exact ⟨_, _, e, ((tells_driveDuty _ s).trans (tells_raise _ _)).trace, by simp⟩
  | tickcfg =>
    rcases execTickcfg_cases s with ⟨_, e⟩ | ⟨_, _, e⟩
    · exact ⟨_, _, e, (tells_raise _ s).trace, List.not_mem_nil⟩
    · exact ⟨_, _, e, ((tells_configureTick _ s).trans (tells_raise _ _)).trace, by simp⟩
  | cycle => exact exec_cycle_without_delay fun hst => h ⟨rfl, hst⟩

/-- Settles O43: the alarm of an ERROR cycle blocks for eight eighths, and no other command tells a `Delay`. -/
theorem errorCycleBlocksOnePeriod : Obligations.ErrorCycleBlocksOnePeriod := by
  intro i s
  by_cases h : i = .cycle ∧ cycleState s = .error
  · rw [if_pos h]
    obtain ⟨rfl, hst⟩ := h
    exact exec_cycle_blocks_of_error hst
  · rw [if_neg h]
    obtain ⟨t, es, ht, htrace, hes⟩ := exec_without_delay h
    exact ⟨t, es, ht, htrace, blockedEighths_of_not_mem _ hes⟩

end Sys2Proof.Machine

/-! ## The idle step and the reset (R200, R201) -/

namespace Sys2Proof.Machine

theorem step_of_nil {s : State} (hs : s.script = []) : step s = .next s := by
  rw [step, hostStep, hs]

/-- R200, R52: a reset that presents a configuration of this hardware. -/
theorem hardReset_of_wellFormed {c : Cfg} (hc : c.WellFormed) (s : State) :
    hardReset c s = .next { State.resetWith s.params c with script := s.script } := if_pos hc

/-- R7: a reset that presents none. -/
theorem hardReset_of_not_wellFormed {c : Cfg} (hc : ¬ c.WellFormed) (s : State) :
    hardReset c s = .refused (.illFormedConfig c.maxsens) := if_neg hc

/-- Settles O8: with nothing to take off the script, HBC waits. -/
theorem stepWaitsForTheHost : Obligations.StepWaitsForTheHost := fun _ hs => step_of_nil hs

/-- Settles O9: the presented reset runs `hardReset`, whose two arms part at `maxsens = NTEMP`. -/
theorem resetActLatchesTheConfiguration : Obligations.ResetActLatchesTheConfiguration := by
  intro s c rest hs
  rw [step_of_reset hs]
  exact ⟨fun hwf => hardReset_of_wellFormed hwf _, fun hbig => hardReset_of_not_wellFormed (Nat.not_le_of_lt hbig) _⟩

end Sys2Proof.Machine
